-- ==== Sys2Proof/Word.lean ====
section
/-! DEFINITION. Word.lean: the words the command port and the registers are made of (00_scope.md R7, R10). -/

namespace Sys2Proof

/-- A command word, a response data word, an event word or a timestamp: 32 bits (R7, R43, R78). -/
abbrev Word := BitVec 32

/-- A configuration register, a frame value, an idle count or a run length: 24 bits (R7, R22). -/
abbrev Reg24 := BitVec 24

end Sys2Proof
end

