-- ==== Sys2Proof/Syntax.lean ====
section
/-! DEFINITION. Syntax.lean: the thirteen commands of spec/opcode_table.json, and the names of the configuration
registers their IDX field selects. -/

namespace Sys2Proof

/-- One constructor per row of spec/opcode_table.json. Operands are the fields of 30_encoding.md R74, unscaled (R82):
DATA and VAL are the whole 24-bit field, IDX the whole 4-bit field (9 to 15 select no register, R209), and CLRF's
operand is its bit OVF. -/
inductive Instr where
  /-- NOP (R195). -/
  | nop
  /-- TX8 #d: queue an 8-bit frame (R192). -/
  | tx8 (data : Reg24)
  /-- TX16 #d: queue a 16-bit frame (R193). -/
  | tx16 (data : Reg24)
  /-- TX24 #d: queue a 24-bit frame (R194). -/
  | tx24 (data : Reg24)
  /-- BREAK: drive the collision-recovery signal (R196). -/
  | brk
  /-- EVPOP: take the oldest event (R197). -/
  | evpop
  /-- EVFLUSH: discard every queued event (R198). -/
  | evflush
  /-- STATUS: read the status word (R199). -/
  | status
  /-- CFGW reg, #v: write a configuration register (R200, R201). -/
  | cfgw (idx : BitVec 4) (val : Reg24)
  /-- CFGR reg: read a configuration register (R202). -/
  | cfgr (idx : BitVec 4)
  /-- CLRF #m: clear the overflow flag when m = 1 (R203). -/
  | clrf (ovf : Bool)
  /-- RDNOW: read the tick counter (R204). -/
  | rdnow
  /-- RDEDGE: read the last-edge timestamp (R205). -/
  | rdedge
  deriving DecidableEq, Repr

/-- The nine configuration registers by name (10_state.md R22). -/
inductive CfgReg where
  | teTicks
  | tolPct
  | longIdleTicks
  | busFailTicks
  | gapFwdTicks
  | gapBwdTicks
  | echoTimeoutTicks
  | breakTicks
  | ctrl
  deriving DecidableEq, Repr

/-- ENABLE, the pseudo-instruction of R86. -/
def Instr.enable : Instr := .cfgw 8 1

/-- ENABLE_IRQ, the pseudo-instruction of R86. -/
def Instr.enableIrq : Instr := .cfgw 8 3

/-- DISABLE, the pseudo-instruction of R86. -/
def Instr.disable : Instr := .cfgw 8 0

/-- CLROVF, the pseudo-instruction of R86. -/
def Instr.clrovf : Instr := .clrf true

end Sys2Proof
end

