-- ==== Sys2Proof/WellFormed.lean ====
section
/-! DEFINITION. WellFormed.lean: which terms of `Instr` stand for a command word (30_encoding.md R76). -/

namespace Sys2Proof

/-- An IDX names a configuration register when it is 0 to 8 (10_state.md R22, 43_host_commands.md R209). -/
def idxExists (idx : BitVec 4) : Bool := idx.toNat ≤ 8

/-- A command is well formed when its word is not ILLEGAL: CFGW and CFGR name an existing register (R76). A TX with
DATA wider than its length is well formed: its word is a TX command, refused with BAD_ARG when it runs (R75, R191). -/
def Instr.wellFormed : Instr → Bool
  | .nop => true
  | .tx8 _ => true
  | .tx16 _ => true
  | .tx24 _ => true
  | .brk => true
  | .evpop => true
  | .evflush => true
  | .status => true
  | .cfgw idx _ => idxExists idx
  | .cfgr idx => idxExists idx
  | .clrf _ => true
  | .rdnow => true
  | .rdedge => true

end Sys2Proof
end

