-- ==== Sys2Proof/Decode.lean ====
section
/-! DEFINITION. Decode.lean: the command word of 30_encoding.md R74 to R76 read into an `Instr`, and the word of an
`Instr` written from the same table. -/

namespace Sys2Proof

/-- OPC, bits 31:28 of a command word (R74). -/
def opcField (w : Word) : BitVec 4 := w.extractLsb' 28 4

/-- Bits 27:26 (R74): reserved but for CFGW and CFGR, where they are IDX[3:2]. -/
def rsvField (w : Word) : BitVec 2 := w.extractLsb' 26 2

/-- LEN, bits 25:24 (R75): reserved but for TX, CFGW and CFGR. -/
def lenField (w : Word) : BitVec 2 := w.extractLsb' 24 2

/-- IDX, bits 27:24 of CFGW and CFGR (R74). -/
def idxField (w : Word) : BitVec 4 := w.extractLsb' 24 4

/-- DATA or VAL, bits 23:0 (R74, R75). -/
def dataField (w : Word) : Reg24 := w.extractLsb' 0 24

/-- Bit 0: OVF of CLRF, SEL of RDNOW and RDEDGE (R74). -/
def bit0Field (w : Word) : Bool := w.getLsbD 0

/-- Bits 27:0 (R74), all reserved in a command without operands. -/
def restField (w : Word) : BitVec 28 := w.extractLsb' 0 28

/-- Bits 27:1 (R74), reserved in CLRF, RDNOW and RDEDGE. -/
def upperRestField (w : Word) : BitVec 27 := w.extractLsb' 1 27

/-- A command without operands: every bit below OPC is reserved and must be zero (R74, R76). -/
def decodePlain (w : Word) (i : Instr) : Option Instr :=
  if restField w = 0#28 then some i else none

/-- TX8, TX16 and TX24, told apart by LEN; LEN = 3 and a set bit of 27:26 are reserved (R75, R76). -/
def decodeTx (w : Word) : Option Instr :=
  if rsvField w = 0#2 then
    if lenField w = 0#2 then some (.tx8 (dataField w))
    else if lenField w = 1#2 then some (.tx16 (dataField w))
    else if lenField w = 2#2 then some (.tx24 (dataField w))
    else none
  else none

/-- CFGW: IDX 9 to 15 is reserved (R76, R209). -/
def decodeCfgw (w : Word) : Option Instr :=
  if idxExists (idxField w) then some (.cfgw (idxField w) (dataField w)) else none

/-- CFGR: IDX 9 to 15 and a set bit of 23:0 are reserved (R76, R202). -/
def decodeCfgr (w : Word) : Option Instr :=
  if idxExists (idxField w) ∧ dataField w = 0#24 then some (.cfgr (idxField w)) else none

/-- CLRF: bits 27:1 are reserved (R203). -/
def decodeClrf (w : Word) : Option Instr :=
  if upperRestField w = 0#27 then some (.clrf (bit0Field w)) else none

/-- RDNOW and RDEDGE, told apart by SEL; bits 27:1 are reserved (R204, R205). -/
def decodeRd (w : Word) : Option Instr :=
  if upperRestField w = 0#27 then (if bit0Field w then some .rdedge else some .rdnow) else none

/-- The command a word stands for, or `none` where the word is ILLEGAL: "every word is exactly one of the thirteen
commands or ILLEGAL" (R76). -/
def decode (w : Word) : Option Instr :=
  if opcField w = 0x0#4 then decodePlain w .nop
  else if opcField w = 0x1#4 then decodeTx w
  else if opcField w = 0x2#4 then decodePlain w .brk
  else if opcField w = 0x3#4 then decodePlain w .evpop
  else if opcField w = 0x4#4 then decodePlain w .evflush
  else if opcField w = 0x5#4 then decodePlain w .status
  else if opcField w = 0x6#4 then decodeCfgw w
  else if opcField w = 0x7#4 then decodeCfgr w
  else if opcField w = 0x8#4 then decodeClrf w
  else if opcField w = 0x9#4 then decodeRd w
  else none

/-- A row of spec/opcode_table.json: the mnemonic's mask and match. -/
structure OpcodeRow where
  mask : Word
  pattern : Word
  deriving DecidableEq, Repr

/-- The row of spec/opcode_table.json a command's word matches. -/
def Instr.row : Instr → OpcodeRow
  | .nop => ⟨0xFFFFFFFF, 0x00000000⟩
  | .tx8 _ => ⟨0xFF000000, 0x10000000⟩
  | .tx16 _ => ⟨0xFF000000, 0x11000000⟩
  | .tx24 _ => ⟨0xFF000000, 0x12000000⟩
  | .brk => ⟨0xFFFFFFFF, 0x20000000⟩
  | .evpop => ⟨0xFFFFFFFF, 0x30000000⟩
  | .evflush => ⟨0xFFFFFFFF, 0x40000000⟩
  | .status => ⟨0xFFFFFFFF, 0x50000000⟩
  | .cfgw _ _ => ⟨0xF0000000, 0x60000000⟩
  | .cfgr _ => ⟨0xF0FFFFFF, 0x70000000⟩
  | .clrf _ => ⟨0xFFFFFFFE, 0x80000000⟩
  | .rdnow => ⟨0xFFFFFFFF, 0x90000000⟩
  | .rdedge => ⟨0xFFFFFFFF, 0x90000001⟩

/-- The word of a command, field by field from bit 31 down (R74, R85). -/
def encode : Instr → Word
  | .nop => 0x0#4 ++ 0#28
  | .tx8 d => 0x1#4 ++ (0#2 ++ (0#2 ++ d))
  | .tx16 d => 0x1#4 ++ (0#2 ++ (1#2 ++ d))
  | .tx24 d => 0x1#4 ++ (0#2 ++ (2#2 ++ d))
  | .brk => 0x2#4 ++ 0#28
  | .evpop => 0x3#4 ++ 0#28
  | .evflush => 0x4#4 ++ 0#28
  | .status => 0x5#4 ++ 0#28
  | .cfgw idx v => 0x6#4 ++ (idx ++ v)
  | .cfgr idx => 0x7#4 ++ (idx ++ 0#24)
  | .clrf m => 0x8#4 ++ (0#27 ++ BitVec.ofBool m)
  | .rdnow => 0x9#4 ++ (0#27 ++ 0#1)
  | .rdedge => 0x9#4 ++ (0#27 ++ 1#1)

/-- The host's view of the decoder: an instruction whose `nbits` table bits are `w`, every bit above them zero. A
command is exactly one 32-bit word and the port has no byte order (R52, R83), so the word goes to `decode` whole. -/
def decodeTableWord (nbits w : Nat) : Option Instr :=
  decode (BitVec.ofNat 32 (w % 2 ^ nbits))

end Sys2Proof
end

