-- ==== Sys2Proof/Config.lean ====
section
/-! DEFINITION. Config.lean: the fixed parameters of 00_scope.md R7, the inputs the outside world can offer, and
the one free value of the model, the input of a step that nothing was placed for. -/

namespace Sys2Proof

/-- What the outside world supplies to ONE step (R6, R57): a command transaction of the host, a clock tick with the
bus environment's contribution, or a clock tick with `rst = 1`.

* `command w`: the host offers `w` with `cmd_valid = 1` between two ticks (R190).
* `tick ext`: a tick in the reference environment; `ext` is the drive of all other bus units (R152).
* `tickSense pin`: a tick whose sense pin is given directly, "the block takes s as given" (R152).
* `resetTick offered`: a tick with `rst = 1`, with the command offered during it, if any (R260). -/
inductive Input where
  | command (w : Word)
  | tick (ext : Bool)
  | tickSense (pin : Bool)
  | resetTick (offered : Option Word)
  deriving DecidableEq, Repr, Inhabited

namespace Config

/-- P_TICK_HZ (R7): one tick is one microsecond. No step depends on it. -/
abbrev tickHz : Nat := 1000000

/-- P_TXQ_DEPTH (R7, D20). Log 7: the spec lets a model take another depth of at least 1. -/
abbrev txqDepth : Nat := 4

/-- P_EVQ_DEPTH (R7, D21). Log 7. -/
abbrev evqDepth : Nat := 16

/-- P_CAP_MAX_PULSES (R7, D9): the pulses one burst buffer holds. -/
abbrev capMaxPulses : Nat := 80

/-- P_MAX_BITS (R7): "or 32 bits are collected". -/
abbrev maxBits : Nat := 32

/-- FREE VALUE (DESIGN CHOICE, safe; log 1). The input of the `n`-th step for which none was placed in
`State.env.inputs`: which of the host and the clock moves, what the host offers, what the other bus units drive and
whether `rst` is raised are the environment's free draws (93 I15, I16). It has no body, so nothing can be proved of it. -/
opaque freeInput : Nat → Input

end Config

end Sys2Proof
end

