-- ==== Sys2Proof/Machine/State.lean ====
section
/-! DEFINITION. Machine/State.lean: everything the spec gives the block (10_state.md, 70_reset_and_hazards.md R261),
its ports (R43), the environment it is clocked by (log 1), and the value of all of it after reset. -/

namespace Sys2Proof.Machine

/-- A line level (00_scope.md R11): `active` is A, the level a transmitter forces, 1 on the ports; `idle` is I, 0. -/
inductive Level where
  | idle
  | active
  deriving DecidableEq, Repr

/-- A frame length the block can send or accept: 8, 16 or 24 bits (R7, R72). -/
inductive FrameLen where
  | b8
  | b16
  | b24
  deriving DecidableEq, Repr

/-- LAST_KIND, the kind of the last bus activity the block resolved (10_state.md R36); the value 3 is never held. -/
inductive Kind where
  | unknown
  | fwd
  | bwd
  deriving DecidableEq, Repr

/-- The status codes a response can have (30_encoding.md R77); codes 6 to 15 are never returned. -/
inductive Status where
  | ok
  | illegal
  | badArg
  | full
  | busy
  | disabled
  deriving DecidableEq, Repr

/-- The framing errors Decode can return (40_manchester_codec.md R112). -/
inductive FramingError where
  | badDuration
  | noStart
  | badSymbol
  | noStop
  | trailing
  deriving DecidableEq, Repr

/-- Why a transmission ended in COLLISION_DETECTED (30_encoding.md R80), with the payload of R79: a LEN_MISMATCH keeps
the decoded bit count (bits 5:0), a DATA_MISMATCH the decoded value. -/
inductive CollisionReason where
  | framing (e : FramingError)
  | emptyEcho
  | lenMismatch (n : BitVec 6)
  | dataMismatch (v : Reg24)
  | echoTimeout
  deriving DecidableEq, Repr

/-- Why a burst with nothing pending ended in FRAME_ERROR (30_encoding.md R80); a NONSTANDARD_LENGTH keeps the decoded
bit count (bits 5:0). -/
inductive FrameErrorReason where
  | framing (e : FramingError)
  | nonstandardLength (n : BitVec 6)
  deriving DecidableEq, Repr

/-- An event record (30_encoding.md R79). TYPE 0 (EMPTY) is never queued and types 6 and 7 are never produced, so they
have no constructor. `eventWord` gives the word EVPOP returns (log 14). -/
inductive Event where
  | frameReceived (len : FrameLen) (value : Reg24)
  | txCompleted (len : FrameLen) (value : Reg24)
  | collisionDetected (reason : CollisionReason)
  | frameError (reason : FrameErrorReason)
  | busFailure (wasTx : Bool)
  deriving DecidableEq, Repr

/-- The configuration register file (10_state.md R22): nine 24-bit registers, in index order. -/
structure CfgFile where
  teTicks : Reg24
  tolPct : Reg24
  longIdleTicks : Reg24
  busFailTicks : Reg24
  gapFwdTicks : Reg24
  gapBwdTicks : Reg24
  echoTimeoutTicks : Reg24
  breakTicks : Reg24
  ctrl : Reg24
  deriving DecidableEq, Repr

/-- A completed pulse of a burst being recorded: a level and a duration of 24 bits, saturating (R7, R37). -/
structure CapPulse where
  level : Level
  dur : Reg24
  deriving DecidableEq, Repr

/-- CAP, the capture unit (10_state.md R37): not armed, waiting for the active level, or recording a burst with its
completed pulses, the level of the run in progress and that run's length so far. -/
inductive Cap where
  | off
  | wait
  | run (pulses : List CapPulse) (level : Level) (len : Reg24)
  deriving DecidableEq, Repr

/-- TXSEQ, the transmit sequencer (10_state.md R38): not driving; driving the frame `(data, len)` with `k` ticks
already driven; or driving the line active with `r` ticks still to drive. -/
inductive TxSeq where
  | idle
  | send (data : Reg24) (len : FrameLen) (k : Nat)
  | brk (r : Nat)
  deriving DecidableEq, Repr

/-- PENDING, the pending-transmit descriptor (10_state.md R39): PV, PD, PN and PT. No rule reads PD, PN or PT while
PV = 0 (log 4). -/
structure Pending where
  valid : Bool
  data : Reg24
  len : FrameLen
  start : Word
  deriving DecidableEq, Repr

/-- A transmit request `(D, N)` (10_state.md R40). -/
structure TxReq where
  data : Reg24
  len : FrameLen
  deriving DecidableEq, Repr

/-- The environment the block is clocked by. None of it belongs to the block, and a reset does not touch what the
outside world holds (log 10).

* `inputs`: the inputs placed for the coming steps, the next one first; `draws`: how many free inputs were taken once
  none was placed (log 1).
* `loopDelay`: ENV_LOOP_DELAY (R9); `drvHist`: drv_active of the last ticks, newest first, as far back as the delay
  reaches (R152, log 5).
* `boardInverted`: BOARD_POLARITY (R9, R275, log 6). -/
structure Env where
  inputs : List Input
  draws : Nat
  loopDelay : Nat
  drvHist : List Bool
  boardInverted : Bool
  deriving DecidableEq, Repr

/-- The machine: every element of 70_reset_and_hazards.md R261, and the environment. The `irq` port is not stored; it
is the function `State.irq` of CTRL and EVQ (60_exceptions.md R233, log 9). -/
structure State where
  /-- The configuration registers (R22). -/
  cfg : CfgFile
  /-- NOW (R32). -/
  now : Word
  /-- LINE (R33). -/
  line : Level
  /-- LAST_EDGE (R34). -/
  lastEdge : Word
  /-- IDLE_CNT (R35). -/
  idleCnt : Reg24
  /-- LAST_KIND (R36). -/
  lastKind : Kind
  /-- CAP (R37). -/
  cap : Cap
  /-- TXSEQ (R38). -/
  txseq : TxSeq
  /-- PENDING (R39). -/
  pending : Pending
  /-- TXQ, oldest request first (R40). -/
  txq : List TxReq
  /-- EVQ, oldest event first (R41). -/
  evq : List Event
  /-- EVQ_OVF (R42). -/
  evqOvf : Bool
  /-- The drv_active port as the last tick step drove it (R43, R151, log 8). -/
  drvActive : Bool
  /-- The rsp_status port as the last command step set it (R43, R77). -/
  rspStatus : Status
  /-- The rsp_data port as the last command step set it (R43, R77). -/
  rspData : Word
  /-- The environment, not part of the block. -/
  env : Env
  deriving DecidableEq, Repr

/-- The block has no fault: "no condition makes it transfer control, save state, change mode or stop"
(60_exceptions.md R230). Nobody can raise one, which is safe: every step has a next state. -/
inductive Fault where
  deriving DecidableEq, Repr

/-- Why the model itself gives no meaning. -/
inductive Refusal where
  /-- Raised only by an arm of `exec` whose instruction has no meaning yet; no arm is left. Safe. -/
  | notModelled (mnemonic : String)
  deriving DecidableEq, Repr

/-- The configuration registers after reset (R22, R261). -/
def CfgFile.reset : CfgFile where
  teTicks := 417
  tolPct := 20
  longIdleTicks := 1668
  busFailTicks := 500000
  gapFwdTicks := 9174
  gapBwdTicks := 13500
  echoTimeoutTicks := 43368
  breakTicks := 1300
  ctrl := 0

/-- PENDING after reset: PV = 0 (R261). PD, PN and PT are DESIGN CHOICE, the spec leaves them unspecified (log 4). -/
def Pending.reset : Pending where
  valid := false
  data := 0
  len := .b8
  start := 0

/-- The reference environment with nothing placed: no loop delay, no inversion (R9, R152; logs 1, 5, 6). -/
def Env.reset : Env where
  inputs := []
  draws := 0
  loopDelay := 0
  drvHist := []
  boardInverted := false

/-- The machine right after reset (R261). rsp_status and rsp_data are DESIGN CHOICE, the spec leaves them unspecified
until the first command step (log 3). -/
def State.reset : State where
  cfg := CfgFile.reset
  now := 0
  line := .idle
  lastEdge := 0
  idleCnt := 0
  lastKind := .unknown
  cap := .off
  txseq := .idle
  pending := Pending.reset
  txq := []
  evq := []
  evqOvf := false
  drvActive := false
  rspStatus := .ok
  rspData := 0
  env := Env.reset

end Sys2Proof.Machine
end

