-- ==== Sys2Proof/Machine/Operands.lean ====
section
/-! DEFINITION. Machine/Operands.lean: the operands of the commands (30_encoding.md R74, R75, R82), frame lengths and
directions (R72, R73), the register file by name (10_state.md R22) and the words of events and codes (R77 to R80). -/

namespace Sys2Proof.Machine

/-- The number of bits of a frame length (R72). -/
def FrameLen.bits : FrameLen → Nat
  | .b8 => 8
  | .b16 => 16
  | .b24 => 24

/-- The frame length of a bit count, `none` for a non-standard one (R72). -/
def FrameLen.ofBits (n : Nat) : Option FrameLen :=
  if n = 8 then some .b8 else if n = 16 then some .b16 else if n = 24 then some .b24 else none

/-- `lencode(n)` of 41_collision_detector.md: 0, 1, 2 for 8, 16, 24 bits (R79). -/
def FrameLen.code : FrameLen → BitVec 2
  | .b8 => 0
  | .b16 => 1
  | .b24 => 2

/-- `dir(n)`: an 8-bit frame is backward, the others are forward (R73, R79). -/
def FrameLen.isBackward : FrameLen → Bool
  | .b8 => true
  | .b16 => false
  | .b24 => false

/-- The kind of activity a valid frame of this length is (R36, R134, R135). -/
def FrameLen.kind : FrameLen → Kind
  | .b8 => .bwd
  | .b16 => .fwd
  | .b24 => .fwd

/-- A TX command's DATA fits its length: no bit at or above position n is set (R75, R191). -/
def dataFits (data : Reg24) (len : FrameLen) : Bool := data.toNat < 2 ^ len.bits

/-- The 2-bit code of LAST_KIND (R36, R81). -/
def Kind.code : Kind → BitVec 2
  | .unknown => 0
  | .fwd => 1
  | .bwd => 2

/-- A level on a port: A is 1, I is 0 (R11). -/
def Level.bit : Level → Bool
  | .active => true
  | .idle => false

/-- The level a port shows (R11). -/
def Level.ofBit (b : Bool) : Level := if b then .active else .idle

/-- The 4-bit code of a response status (R77). -/
def Status.code : Status → BitVec 4
  | .ok => 0
  | .illegal => 1
  | .badArg => 2
  | .full => 3
  | .busy => 4
  | .disabled => 5

/-- The register an IDX selects; 9 to 15 select none (R22, R209). -/
def CfgReg.ofIdx (idx : BitVec 4) : Option CfgReg :=
  match idx.toNat with
  | 0 => some .teTicks
  | 1 => some .tolPct
  | 2 => some .longIdleTicks
  | 3 => some .busFailTicks
  | 4 => some .gapFwdTicks
  | 5 => some .gapBwdTicks
  | 6 => some .echoTimeoutTicks
  | 7 => some .breakTicks
  | 8 => some .ctrl
  | _ => none

/-- `CFG[reg]` read (R31). -/
def CfgFile.read (c : CfgFile) : CfgReg → Reg24
  | .teTicks => c.teTicks
  | .tolPct => c.tolPct
  | .longIdleTicks => c.longIdleTicks
  | .busFailTicks => c.busFailTicks
  | .gapFwdTicks => c.gapFwdTicks
  | .gapBwdTicks => c.gapBwdTicks
  | .echoTimeoutTicks => c.echoTimeoutTicks
  | .breakTicks => c.breakTicks
  | .ctrl => c.ctrl

/-- `CFG[reg] <- v` (R22). -/
def CfgFile.write (c : CfgFile) (r : CfgReg) (v : Reg24) : CfgFile :=
  match r with
  | .teTicks => { c with teTicks := v }
  | .tolPct => { c with tolPct := v }
  | .longIdleTicks => { c with longIdleTicks := v }
  | .busFailTicks => { c with busFailTicks := v }
  | .gapFwdTicks => { c with gapFwdTicks := v }
  | .gapBwdTicks => { c with gapBwdTicks := v }
  | .echoTimeoutTicks => { c with echoTimeoutTicks := v }
  | .breakTicks => { c with breakTicks := v }
  | .ctrl => { c with ctrl := v }

/-- The write-time legal values of a timing register (R22, R200): TOL_PCT 0 to 33, every other one not zero. CTRL's
own test is the one on its reserved bits (R30, R201). -/
def timingValueLegal (r : CfgReg) (v : Reg24) : Bool :=
  match r with
  | .tolPct => v.toNat ≤ 33
  | .teTicks => v != 0#24
  | .longIdleTicks => v != 0#24
  | .busFailTicks => v != 0#24
  | .gapFwdTicks => v != 0#24
  | .gapBwdTicks => v != 0#24
  | .echoTimeoutTicks => v != 0#24
  | .breakTicks => v != 0#24
  | .ctrl => true

/-- CTRL's reserved bits 23:2 (R30). -/
abbrev ctrlReserved (v : Reg24) : BitVec 22 := v.extractLsb' 2 22

/-- The reason code of a framing error (R80). -/
def FramingError.code : FramingError → BitVec 5
  | .badDuration => 1
  | .noStart => 2
  | .badSymbol => 3
  | .noStop => 4
  | .trailing => 5

/-- The reason code of a collision (R80). -/
def CollisionReason.code : CollisionReason → BitVec 5
  | .framing e => e.code
  | .emptyEcho => 7
  | .lenMismatch _ => 8
  | .dataMismatch _ => 9
  | .echoTimeout => 10

/-- The DATA field of a collision (R79). -/
def CollisionReason.data : CollisionReason → Reg24
  | .framing _ => 0
  | .emptyEcho => 0
  | .lenMismatch n => n.zeroExtend 24
  | .dataMismatch v => v
  | .echoTimeout => 0

/-- The reason code of a frame error (R80). -/
def FrameErrorReason.code : FrameErrorReason → BitVec 5
  | .framing e => e.code
  | .nonstandardLength _ => 6

/-- The DATA field of a frame error (R79). -/
def FrameErrorReason.data : FrameErrorReason → Reg24
  | .framing _ => 0
  | .nonstandardLength n => n.zeroExtend 24

/-- INFO of FRAME_RECEIVED and TX_COMPLETED: bits 28:27 zero, DIR in bit 26, LEN in bits 25:24 (R79). -/
def frameInfo (len : FrameLen) : BitVec 5 := 0#2 ++ (BitVec.ofBool len.isBackward ++ len.code)

/-- An event word from its fields TYPE, INFO and DATA (R78). -/
def packEvent (type : BitVec 3) (info : BitVec 5) (data : Reg24) : Word := type ++ (info ++ data)

/-- `word(ev)`: the event word EVPOP returns (R78, R79). -/
def eventWord : Event → Word
  | .frameReceived len v => packEvent 1 (frameInfo len) v
  | .txCompleted len v => packEvent 2 (frameInfo len) v
  | .collisionDetected r => packEvent 3 r.code r.data
  | .frameError r => packEvent 4 r.code r.data
  | .busFailure wasTx => packEvent 5 (0#4 ++ BitVec.ofBool wasTx) 0

end Sys2Proof.Machine
end

