-- ==== Sys2Proof/Machine/Ops.lean ====
section
/-! DEFINITION. Machine/Ops.lean: the operations the commands and the tick step share: the response (which is all an
error does here: the block takes no exception, 60_exceptions.md R230 and R236), the event queue's input (R165), the
descriptor, the gap condition (R162), the joint constraints (R206), enable and disable (R207, R208). -/

namespace Sys2Proof.Machine

/-- `sat24(x) = min(x, 2^24 - 1)` (00_scope.md R12). -/
def sat24 (x : Nat) : Reg24 := BitVec.ofNat 24 (min x (2 ^ 24 - 1))

/-- CTRL.EN (R30). -/
def State.en (s : State) : Bool := s.cfg.ctrl.getLsbD 0

/-- CTRL.IRQ_EN (R30). -/
def State.irqEn (s : State) : Bool := s.cfg.ctrl.getLsbD 1

/-- `respond(st, d)`: end a command step with status `st` and data `d` (R12, R190). -/
def respond (st : Status) (d : Word) (s : State) : State :=
  { s with rspStatus := st, rspData := d }

/-- `raise St`, the block's one answer to an error: `respond(St, 0)` and nothing else. There is no trap entry, so no
saved state, and no return (R12, R230, R236). -/
def raise (st : Status) (s : State) : State := respond st 0 s

/-- `emit(ev)`: the non-blocking send; on a full queue the new event is dropped and EVQ_OVF is set (R165). -/
def emit (ev : Event) (s : State) : State :=
  if s.evq.length < Config.evqDepth then { s with evq := s.evq ++ [ev] } else { s with evqOvf := true }

/-- `PV <- 0` (R131 to R134, R139, R208). PD, PN and PT keep their values, which no rule reads now (log 4). -/
def closePending (s : State) : State := { s with pending := { s.pending with valid := false } }

/-- `LAST_KIND <- k` (R36). -/
def setKind (k : Kind) (s : State) : State := { s with lastKind := k }

/-- A transmission ends without success or a burst without a valid frame: the event, LAST_KIND unknown. -/
def emitUnknown (ev : Event) (s : State) : State := setKind .unknown (emit ev s)

/-- TXSEQ with a frame being sent stopped; a break goes on (R131). -/
def TxSeq.stopSend : TxSeq → TxSeq
  | .idle => .idle
  | .send _ _ _ => .idle
  | .brk r => .brk r

/-- `if TXSEQ = SEND(_, _, _) then TXSEQ <- IDLE` (R131). -/
def stopSending (s : State) : State := { s with txseq := s.txseq.stopSend }

/-- `gap(k)`: the settle time after activity of kind `k`, the longer one after unknown activity (R162). -/
def gapTicks (c : CfgFile) : Kind → Nat
  | .fwd => c.gapFwdTicks.toNat
  | .bwd => c.gapBwdTicks.toNat
  | .unknown => c.gapBwdTicks.toNat

/-- The gap condition (R162): LINE = I and IDLE_CNT >= gap(LAST_KIND). -/
def State.gapOk (s : State) : Bool :=
  s.line == .idle && decide (gapTicks s.cfg s.lastKind ≤ s.idleCnt.toNat)

/-- `JointOK()` (R206): JC1 to JC5, in exact integer arithmetic. -/
def jointOk (c : CfgFile) : Bool :=
  decide (2 * c.teTicks.toNat * (100 + c.tolPct.toNat) < 100 * c.longIdleTicks.toNat)
    && decide (2 * c.teTicks.toNat * (100 + c.tolPct.toNat) < 100 * c.busFailTicks.toNat)
    && decide (c.longIdleTicks.toNat ≤ c.gapFwdTicks.toNat)
    && decide (c.gapFwdTicks.toNat < c.gapBwdTicks.toNat)
    && decide (52 * c.teTicks.toNat + c.longIdleTicks.toNat < c.echoTimeoutTicks.toNat)

/-- `Enable()`, on EN going from 0 to 1 (R207). -/
def enableBlock (s : State) : State := { s with cap := .wait, lastKind := .unknown }

/-- `Disable()`, on EN going from 1 to 0 (R208). EVQ, EVQ_OVF and the line monitor are kept. -/
def disableBlock (s : State) : State :=
  closePending { s with txseq := .idle, cap := .off, txq := [] }

/-- `push80(P, p)`: pulses after the 80th of a burst are not stored (R158). -/
def push80 (p : List CapPulse) (x : CapPulse) : List CapPulse :=
  if p.length < Config.capMaxPulses then p ++ [x] else p

end Sys2Proof.Machine
end

