-- ==== Sys2Proof/Machine/Flags.lean ====
section
/-! DEFINITION. Machine/Flags.lean: EVQ_OVF, the block's only flag (10_state.md R42), the irq output
(60_exceptions.md R233) and the status word (30_encoding.md R81). -/

namespace Sys2Proof.Machine

/-- `if m = 1 then EVQ_OVF <- 0` (R203). -/
def clearOvf (m : Bool) (s : State) : State := if m then { s with evqOvf := false } else s

/-- The irq output, a level: IRQ_EN and EVQ not empty, evaluated on the state after every step (R233, log 9). -/
def State.irq (s : State) : Bool := s.irqEn && !s.evq.isEmpty

/-- STATUS bit 1, TX_BUSY: TXSEQ = SEND (R81). -/
def State.txBusy (s : State) : Bool :=
  match s.txseq with
  | .idle => false
  | .send _ _ _ => true
  | .brk _ => false

/-- STATUS bit 2, BREAK_ACTIVE: TXSEQ = BREAK (R81). -/
def State.breakActive (s : State) : Bool :=
  match s.txseq with
  | .idle => false
  | .send _ _ _ => false
  | .brk _ => true

/-- STATUS bit 6, CAP_RUN: CAP = RUN (R81). -/
def State.capRun (s : State) : Bool :=
  match s.cap with
  | .off => false
  | .wait => false
  | .run _ _ _ => true

/-- STATUS bits 7:0, from bit 7 down (R81). -/
def State.statusFlags (s : State) : BitVec 8 :=
  BitVec.ofBool s.evqOvf ++ (BitVec.ofBool s.capRun ++ (BitVec.ofBool s.gapOk ++ (BitVec.ofBool s.line.bit
    ++ (BitVec.ofBool s.pending.valid ++ (BitVec.ofBool s.breakActive ++ (BitVec.ofBool s.txBusy
    ++ BitVec.ofBool s.en))))))

/-- `StatusWord()` (R81), from bit 31 down: zero, IRQ, EVQ_COUNT, TXQ_COUNT, zero, LAST_KIND, the flags. -/
def State.statusWord (s : State) : Word :=
  0#7 ++ (BitVec.ofBool s.irq ++ (BitVec.ofNat 8 s.evq.length ++ (BitVec.ofNat 4 s.txq.length
    ++ (0#2 ++ (s.lastKind.code ++ s.statusFlags)))))

end Sys2Proof.Machine
end

