-- ==== Sys2Proof/Machine/Events.lean ====
section
/-! DEFINITION. Machine/Events.lean: EVPOP, EVFLUSH and CLRF (43_host_commands.md R197, R198, R203). -/

namespace Sys2Proof.Machine

/-- The oldest event's word, or 0 (TYPE EMPTY) from an empty queue (R197). -/
def popEvent (s : State) : State :=
  match s.evq with
  | [] => respond .ok 0 s
  | ev :: rest => respond .ok (eventWord ev) { s with evq := rest }

/-- EVPOP (R197). -/
def execEvpop (s : State) : Host.Outcome State Fault Refusal := .next (popEvent s)

/-- EVFLUSH (R198): the answer is the number of events discarded. -/
def execEvflush (s : State) : Host.Outcome State Fault Refusal :=
  .next (respond .ok (BitVec.ofNat 32 s.evq.length) { s with evq := [] })

/-- CLRF #m (R203). -/
def execClrf (ovf : Bool) (s : State) : Host.Outcome State Fault Refusal :=
  .next (respond .ok 0 (clearOvf ovf s))

end Sys2Proof.Machine
end

