-- ==== Sys2Proof/Machine/Observe.lean ====
section
/-! DEFINITION. Machine/Observe.lean: NOP, STATUS, RDNOW and RDEDGE (43_host_commands.md R195, R199, R204, R205),
which change nothing but the response. -/

namespace Sys2Proof.Machine

/-- NOP (R195). -/
def execNop (s : State) : Host.Outcome State Fault Refusal := .next (respond .ok 0 s)

/-- STATUS (R199): the word of R81 from the state as it stands. -/
def execStatus (s : State) : Host.Outcome State Fault Refusal := .next (respond .ok s.statusWord s)

/-- RDNOW (R204). -/
def execRdnow (s : State) : Host.Outcome State Fault Refusal := .next (respond .ok s.now s)

/-- RDEDGE (R205). -/
def execRdedge (s : State) : Host.Outcome State Fault Refusal := .next (respond .ok s.lastEdge s)

end Sys2Proof.Machine
end

