-- ==== Sys2Proof/Machine/Registers.lean ====
section
/-! DEFINITION. Machine/Registers.lean: CFGW and CFGR (43_host_commands.md R200 to R202, R206 to R209). -/

namespace Sys2Proof.Machine

/-- CFGW of a timing register, index 0 to 7, its tests in the order of R200. -/
def writeTiming (r : CfgReg) (v : Reg24) (s : State) : State :=
  if s.en then raise .busy s
  else if !timingValueLegal r v then raise .badArg s
  else respond .ok 0 { s with cfg := s.cfg.write r v }

/-- The side effect of a change of EN from `old` to `new` (R201). -/
def enChange (old new : Bool) (s : State) : State :=
  match old, new with
  | false, true => enableBlock s
  | true, false => disableBlock s
  | false, false => s
  | true, true => s

/-- CFGW CTRL, index 8, its tests in the order of R201. -/
def writeCtrl (v : Reg24) (s : State) : State :=
  if ctrlReserved v ≠ 0#22 then raise .badArg s
  else if s.en = false ∧ v.getLsbD 0 = true ∧ jointOk s.cfg = false then raise .badArg s
  else respond .ok 0 (enChange s.en (v.getLsbD 0) { s with cfg := s.cfg.write .ctrl v })

/-- A configuration write to a named register (R200, R201). -/
def writeRegister (r : CfgReg) (v : Reg24) (s : State) : State :=
  match r with
  | .ctrl => writeCtrl v s
  | .teTicks => writeTiming .teTicks v s
  | .tolPct => writeTiming .tolPct v s
  | .longIdleTicks => writeTiming .longIdleTicks v s
  | .busFailTicks => writeTiming .busFailTicks v s
  | .gapFwdTicks => writeTiming .gapFwdTicks v s
  | .gapBwdTicks => writeTiming .gapBwdTicks v s
  | .echoTimeoutTicks => writeTiming .echoTimeoutTicks v s
  | .breakTicks => writeTiming .breakTicks v s

/-- CFGW reg, #v (R200, R201); an index that selects no register is ILLEGAL and changes nothing (R209). -/
def execCfgw (idx : BitVec 4) (v : Reg24) (s : State) : Host.Outcome State Fault Refusal :=
  match CfgReg.ofIdx idx with
  | some r => .next (writeRegister r v s)
  | none => .next (raise .illegal s)

/-- CFGR reg: the register zero-extended (R31, R202); an index that selects no register is ILLEGAL (R209). -/
def execCfgr (idx : BitVec 4) (s : State) : Host.Outcome State Fault Refusal :=
  match CfgReg.ofIdx idx with
  | some r => .next (respond .ok ((s.cfg.read r).zeroExtend 32) s)
  | none => .next (raise .illegal s)

end Sys2Proof.Machine
end

