-- ==== Sys2Proof/Machine/Transmit.lean ====
section
/-! DEFINITION. Machine/Transmit.lean: TX8, TX16, TX24 and BREAK (43_host_commands.md R191 to R194, R196). -/

namespace Sys2Proof.Machine

/-- `TxRequest(n, data)`, the common body of the TX commands, its tests in the order of R191. -/
def txRequest (len : FrameLen) (data : Reg24) (s : State) : State :=
  if !s.en then raise .disabled s
  else if !dataFits data len then raise .badArg s
  else if s.txq.length = Config.txqDepth then raise .full s
  else respond .ok (BitVec.ofNat 32 (s.txq.length + 1)) { s with txq := s.txq ++ [⟨data, len⟩] }

/-- TX8 #d (R192). -/
def execTx8 (data : Reg24) (s : State) : Host.Outcome State Fault Refusal := .next (txRequest .b8 data s)

/-- TX16 #d (R193). -/
def execTx16 (data : Reg24) (s : State) : Host.Outcome State Fault Refusal := .next (txRequest .b16 data s)

/-- TX24 #d (R194). -/
def execTx24 (data : Reg24) (s : State) : Host.Outcome State Fault Refusal := .next (txRequest .b24 data s)

/-- The break begins: TXSEQ <- BREAK(BREAK_TICKS), CAP <- OFF (R196). -/
def startBreak (s : State) : State :=
  respond .ok 0 { s with txseq := .brk s.cfg.breakTicks.toNat, cap := .off }

/-- BREAK, its tests in the order of R196. -/
def breakCommand (s : State) : State :=
  if !s.en then raise .disabled s
  else if s.txseq ≠ .idle ∨ s.pending.valid = true then raise .busy s
  else startBreak s

/-- BREAK (R196). -/
def execBreak (s : State) : Host.Outcome State Fault Refusal := .next (breakCommand s)

end Sys2Proof.Machine
end

