-- ==== Sys2Proof/Machine/Dispatch.lean ====
section
/-! DEFINITION. Machine/Dispatch.lean: one arm per command (43_host_commands.md R190). -/

namespace Sys2Proof.Machine

def exec (i : Instr) (s : State) : Host.Outcome State Fault Refusal :=
  match i with
  | .nop => Sys2Proof.Machine.execNop s
  | .tx8 data => Sys2Proof.Machine.execTx8 data s
  | .tx16 data => Sys2Proof.Machine.execTx16 data s
  | .tx24 data => Sys2Proof.Machine.execTx24 data s
  | .brk => Sys2Proof.Machine.execBreak s
  | .evpop => Sys2Proof.Machine.execEvpop s
  | .evflush => Sys2Proof.Machine.execEvflush s
  | .status => Sys2Proof.Machine.execStatus s
  | .cfgw idx val => Sys2Proof.Machine.execCfgw idx val s
  | .cfgr idx => Sys2Proof.Machine.execCfgr idx s
  | .clrf ovf => Sys2Proof.Machine.execClrf ovf s
  | .rdnow => Sys2Proof.Machine.execRdnow s
  | .rdedge => Sys2Proof.Machine.execRdedge s

end Sys2Proof.Machine
end

