-- ==== Sys2Proof/Machine/Codec.lean ====
section
/-! DEFINITION. Machine/Codec.lean: the Manchester encoder and decoder, pure functions of the configuration registers
(40_manchester_codec.md R100 to R112). Durations here are exact natural numbers (R12). -/

namespace Sys2Proof.Machine

/-- A pulse as the decoder reads it: a level and a duration in ticks (R11). -/
abbrev Pulse := Level × Nat

/-- The symbols of the data bits `d[n-1]` down to `d[0]`: active, idle for a 1, idle, active for a 0 (R70, R100). -/
def dataSymbols (d : Nat) : Nat → List Level
  | 0 => []
  | i + 1 => (if d.testBit i then [.active, .idle] else [.idle, .active]) ++ dataSymbols d i

/-- `Encode(D, N)`: start bit, data bits most significant first, stop condition (R100). -/
def encodeFrame (d n : Nat) : List Level :=
  [.active, .idle] ++ (dataSymbols d n ++ [.idle, .idle])

/-- The maximal runs of equal levels of a symbol sequence, with their lengths in half-bits (R101). -/
def levelRuns : List Level → List Pulse
  | [] => []
  | l :: rest =>
    match levelRuns rest with
    | [] => [(l, 1)]
    | (l', k) :: more => if l = l' then (l, k + 1) :: more else (l, 1) :: (l', k) :: more

/-- `Pulses(S, TE)`: a run of k half-bits is a pulse of k x TE ticks (R101). -/
def pulsesOf (symbols : List Level) (te : Nat) : List Pulse :=
  (levelRuns symbols).map fun p => (p.1, p.2 * te)

/-- The class of a pulse duration (R103). -/
inductive DurClass where
  | one
  | two
  | bad
  deriving DecidableEq, Repr

/-- `|a - b|` on natural numbers (R12). -/
def absDiff (a b : Nat) : Nat := (a - b) + (b - a)

/-- `Classify(d)`: two closed bands, each relative to its own nominal duration (R103). -/
def classify (c : CfgFile) (d : Nat) : DurClass :=
  if 100 * absDiff d c.teTicks.toNat ≤ c.tolPct.toNat * c.teTicks.toNat then .one
  else if 100 * absDiff d (2 * c.teTicks.toNat) ≤ 2 * c.tolPct.toNat * c.teTicks.toNat then .two
  else .bad

/-- What reading one half-bit of a burst can give: a level, the symbol X of a BAD pulse, or E, the burst's end with no
idle (R107). -/
inductive HalfBit where
  | level (l : Level)
  | bad
  | ended
  deriving DecidableEq, Repr

/-- An idle pulse at least LONG_IDLE_TICKS long (R105); equal counts as exceeded. -/
def isLongIdle (c : CfgFile) (p : Pulse) : Bool :=
  p.1 == .idle && decide (c.longIdleTicks.toNat ≤ p.2)

/-- The index of the last pulse when that pulse is idle, `none` otherwise (R105). -/
def lastIdleIndex (burst : List Pulse) : Option Nat :=
  match burst.getLast? with
  | none => none
  | some p => if p.1 = .idle then some (burst.length - 1) else none

/-- The terminating pulse's index j (R105): the first long idle, else the last pulse when it is idle, else none. -/
def terminatingIndex (c : CfgFile) (burst : List Pulse) : Option Nat :=
  match burst.findIdx? (isLongIdle c) with
  | some k => some k
  | none => lastIdleIndex burst

/-- BODY: the pulses before the terminating one, all of them when there is none (R105). -/
def bodyOf (c : CfgFile) (burst : List Pulse) : List Pulse :=
  match terminatingIndex c burst with
  | some j => burst.take j
  | none => burst

/-- The half-bit symbols of one pulse (R107). -/
def pulseHalfBits (c : CfgFile) (p : Pulse) : List HalfBit :=
  match classify c p.2 with
  | .one => [.level p.1]
  | .two => [.level p.1, .level p.1]
  | .bad => [.bad]

/-- H: the half-bit symbols of BODY, pulse by pulse (R107). -/
def halfBits (c : CfgFile) (body : List Pulse) : List HalfBit :=
  body.flatMap (pulseHalfBits c)

/-- `half(i)` (R107): past the end of H the terminating idle when there is one, else the burst's end. -/
def halfAt (h : List HalfBit) (terminated : Bool) (i : Nat) : HalfBit :=
  match h[i]? with
  | some x => x
  | none => if terminated then .level .idle else .ended

/-- What one bit position can be (R108). -/
inductive PairResult where
  | bit (b : Bool)
  | stop
  | err (e : FramingError)
  deriving DecidableEq, Repr

/-- `PairEval` on the two half-bits of a position, in the order of R108. -/
def pairEval : HalfBit → HalfBit → PairResult
  | .bad, _ => .err .badDuration
  | .ended, _ => .err .noStop
  | .level _, .bad => .err .badDuration
  | .level _, .ended => .err .noStop
  | .level .idle, .level .active => .bit false
  | .level .active, .level .idle => .bit true
  | .level .idle, .level .idle => .stop
  | .level .active, .level .active => .err .badSymbol

/-- Decode's result (R112). -/
inductive DecodeResult where
  | noFrame
  | busFail
  | err (e : FramingError)
  | frame (v n : Nat)
  deriving DecidableEq, Repr

/-- Steps 6 and 7 of Decode (R110, R111): `fuel` more bits may be collected, `i` is the next position, `n` bits with
value `v` are collected. A stop with more than its own two half-bits left in H is TRAILING. -/
def decodeBits (h : List HalfBit) (terminated : Bool) : Nat → Nat → Nat → Nat → DecodeResult
  | 0, _, n, v => .frame v n
  | fuel + 1, i, n, v =>
    match pairEval (halfAt h terminated i) (halfAt h terminated (i + 1)) with
    | .bit b => decodeBits h terminated fuel (i + 2) (n + 1) (2 * v + b.toNat)
    | .stop => if i + 2 < h.length then .err .trailing else .frame v n
    | .err e => .err e

/-- Steps 5 to 7 of Decode (R109 to R111): only BAD_DURATION and NO_STOP are reported from position 0; every other
result there but the start bit is NO_START. -/
def decodeHalfBits (h : List HalfBit) (terminated : Bool) : DecodeResult :=
  match pairEval (halfAt h terminated 0) (halfAt h terminated 1) with
  | .bit true => decodeBits h terminated Config.maxBits 2 0 0
  | .bit false => .err .noStart
  | .stop => .err .noStart
  | .err .badDuration => .err .badDuration
  | .err .noStop => .err .noStop
  | .err .noStart => .err .noStart
  | .err .badSymbol => .err .noStart
  | .err .trailing => .err .noStart

/-- A first pulse held active for BUSFAIL_TICKS or longer (R106). -/
def isBusFailure (c : CfgFile) (p : Pulse) : Bool :=
  p.1 == .active && decide (c.busFailTicks.toNat ≤ p.2)

/-- `Decode(P)` (R105 to R112). -/
def decodeBurst (c : CfgFile) (burst : List Pulse) : DecodeResult :=
  match burst with
  | [] => .noFrame
  | first :: _ =>
    if isBusFailure c first then .busFail
    else if terminatingIndex c burst = some 0 then .noFrame
    else decodeHalfBits (halfBits c (bodyOf c burst)) (terminatingIndex c burst).isSome

end Sys2Proof.Machine
end

