-- ==== Sys2Proof/Machine/Resolve.lean ====
section
/-! DEFINITION. Machine/Resolve.lean: the echo comparator and collision detector (41_collision_detector.md R130 to
R139). -/

namespace Sys2Proof.Machine

/-- A recorded pulse as the decoder reads it. -/
def CapPulse.pulse (p : CapPulse) : Pulse := (p.level, p.dur.toNat)

/-- A pending transmission ends in COLLISION_DETECTED: the event, PV = 0, LAST_KIND unknown (R132, R133, R139). -/
def collide (r : CollisionReason) (s : State) : State :=
  closePending (emitUnknown (.collisionDetected r) s)

/-- `ResolvePending` on a decoded echo (R134): the count is compared first, then the value. -/
def resolveEcho (v n : Nat) (s : State) : State :=
  if n ≠ s.pending.len.bits then collide (.lenMismatch (BitVec.ofNat 6 n)) s
  else if v ≠ s.pending.data.toNat then collide (.dataMismatch (BitVec.ofNat 24 v)) s
  else closePending (setKind s.pending.len.kind (emit (.txCompleted s.pending.len s.pending.data) s))

/-- `ResolvePending(r)` (R131 to R134). -/
def resolvePending (r : DecodeResult) (s : State) : State :=
  match r with
  | .busFail => stopSending (closePending (emitUnknown (.busFailure true) s))
  | .noFrame => collide .emptyEcho s
  | .err e => collide (.framing e) s
  | .frame v n => resolveEcho v n s

/-- `ResolveIdle` on a decoded frame (R135): a standard length is received, another is reported and discarded. -/
def receiveFrame (v n : Nat) (s : State) : State :=
  match FrameLen.ofBits n with
  | some len => setKind len.kind (emit (.frameReceived len (BitVec.ofNat 24 v)) s)
  | none => emitUnknown (.frameError (.nonstandardLength (BitVec.ofNat 6 n))) s

/-- `ResolveIdle(r)` (R135). -/
def resolveIdle (r : DecodeResult) (s : State) : State :=
  match r with
  | .busFail => emitUnknown (.busFailure false) s
  | .noFrame => s
  | .err e => emitUnknown (.frameError (.framing e)) s
  | .frame v n => receiveFrame v n s

/-- `Resolve` on what the burst decoded to (R130). -/
def resolveResult (r : DecodeResult) (s : State) : State :=
  if s.pending.valid then resolvePending r s else resolveIdle r s

/-- `Resolve(P)` (R130). -/
def resolve (burst : List CapPulse) (s : State) : State :=
  resolveResult (decodeBurst s.cfg (burst.map CapPulse.pulse)) s

/-- `EchoTimeout` (R139); TXSEQ is not changed. -/
def echoTimeout (s : State) : State := collide .echoTimeout s

end Sys2Proof.Machine
end

