-- ==== Sys2Proof/Machine/Tick.lean ====
section
/-! DEFINITION. Machine/Tick.lean: the tick step and its eight phases (42_frame_driver.md R150 to R164), and the
reset step (70_reset_and_hazards.md R260). -/

namespace Sys2Proof.Machine

/-- The half-bit the sequencer drives at tick index `k` of a frame, `Encode(D, N)[K div TE_TICKS]` (R151). -/
def halfBitAt (c : CfgFile) (data : Reg24) (len : FrameLen) (k : Nat) : Option Level :=
  (encodeFrame data.toNat len.bits)[k / c.teTicks.toNat]?

/-- Phase 1's line-driver output for this tick (R151). -/
def driveOut (s : State) : Bool :=
  match s.txseq with
  | .idle => false
  | .send d n k => halfBitAt s.cfg d n k == some .active
  | .brk _ => true

/-- Phase 1, Drive (R151). -/
def drivePhase (s : State) : State := { s with drvActive := driveOut s }

/-- IDLE_CNT after a tick sampled at `l` (R153). -/
def nextIdleCnt (l : Level) (cnt : Reg24) : Reg24 :=
  match l with
  | .active => 0
  | .idle => sat24 (cnt.toNat + 1)

/-- Phase 3, Monitor, enabled or not (R153). -/
def monitorPhase (l : Level) (s : State) : State :=
  { s with
    lastEdge := if l = s.line then s.lastEdge else s.now
    idleCnt := nextIdleCnt l s.idleCnt
    line := l }

/-- The threshold that ends a burst for the run in progress: LONG_IDLE_TICKS or BUSFAIL_TICKS (R156, R157). -/
def burstLimit (c : CfgFile) : Level → Nat
  | .idle => c.longIdleTicks.toNat
  | .active => c.busFailTicks.toNat

/-- The run in progress has reached its threshold: re-arm, then resolve the burst (R156, R157); else record on. -/
def endOrRecord (p : List CapPulse) (l : Level) (n : Reg24) (s : State) : State :=
  if burstLimit s.cfg l ≤ n.toNat then resolve (push80 p ⟨l, n⟩) { s with cap := .wait }
  else { s with cap := .run p l n }

/-- Phase 4, Capture (R154 to R157): a run grows while the level stays, and becomes a pulse when it changes. -/
def capturePhase (l : Level) (s : State) : State :=
  match s.cap with
  | .off => s
  | .wait => if l = .active then { s with cap := .run [] .active 1 } else s
  | .run p lv n =>
    if l = lv then endOrRecord p lv (sat24 (n.toNat + 1)) s
    else endOrRecord (push80 p ⟨lv, n⟩) l 1 s

/-- The echo timer has run out: PV = 1 and (NOW - PT) mod 2^32 >= ECHO_TIMEOUT_TICKS (R159). -/
def echoExpired (s : State) : Bool :=
  s.pending.valid && decide (s.cfg.echoTimeoutTicks.toNat ≤ (s.now - s.pending.start).toNat)

/-- Phase 5, EchoTimer (R159). -/
def echoPhase (s : State) : State := if echoExpired s then echoTimeout s else s

/-- Phase 6, SequencerAdvance (R160, R161). -/
def sequencerPhase (s : State) : State :=
  match s.txseq with
  | .idle => s
  | .send d n k =>
    if k + 1 = (2 * n.bits + 4) * s.cfg.teTicks.toNat then { s with txseq := .idle }
    else { s with txseq := .send d n (k + 1) }
  | .brk r =>
    if r = 1 then { s with txseq := .idle, cap := .wait, lastKind := .unknown }
    else { s with txseq := .brk (r - 1) }

/-- The conditions of a transmit start but for a queued request (R163). -/
def mayStart (s : State) : Bool :=
  s.en && s.txseq == .idle && !s.pending.valid && s.cap == .wait && s.gapOk

/-- The start of the request at the head of TXQ (R163); PT is the first driven tick. -/
def startRequest (r : TxReq) (rest : List TxReq) (s : State) : State :=
  { s with
    txq := rest
    txseq := .send r.data r.len 0
    pending := { valid := true, data := r.data, len := r.len, start := s.now + 1 } }

/-- Phase 7, TxStart (R163). -/
def startPhase (s : State) : State :=
  match s.txq with
  | [] => s
  | r :: rest => if mayStart s then startRequest r rest s else s

/-- Phase 8, Clock (R164). -/
def clockPhase (s : State) : State := { s with now := s.now + 1 }

/-- `TickStep(sense)` (R150): the eight phases in order, phase 2 having sampled the level `l`. -/
def tickStep (l : Level) (s : State) : State :=
  clockPhase (startPhase (sequencerPhase (echoPhase (capturePhase l (monitorPhase l (drivePhase s))))))

/-- drv_active(t - ENV_LOOP_DELAY) with this tick's drive given; before the first tick the line was not driven
(R152, R261, log 5). -/
def delayedDrive (e : Env) (drv : Bool) : Bool := ((drv :: e.drvHist)[e.loopDelay]?).getD false

/-- The delay line after a tick that drove `drv` (log 5). -/
def recordDrive (drv : Bool) (e : Env) : Env := { e with drvHist := (drv :: e.drvHist).take e.loopDelay }

/-- The environment moves on by one tick in which the block drove `drv`. -/
def envTick (drv : Bool) (s : State) : State := { s with env := recordDrive drv s.env }

/-- The level the reference environment shows: any driver forcing active wins (R152). -/
def busLevel (ext : Bool) (s : State) : Level :=
  Level.ofBit (delayedDrive s.env (driveOut s) || ext)

/-- The level a given sense pin means; an inverting board is outside the block's ports (R152, R275, log 6). -/
def pinLevel (pin : Bool) (s : State) : Level := Level.ofBit (pin != s.env.boardInverted)

/-- The physical drive pin: drv_active, inverted by an inverting board (R43, R275, log 6). -/
def State.drvPin (s : State) : Bool := s.drvActive != s.env.boardInverted

/-- A tick in the reference environment, the other units driving `ext` (R152). -/
def tickInBus (ext : Bool) (s : State) : State :=
  tickStep (busLevel ext s) (envTick (driveOut s) s)

/-- A tick whose sense pin is given (R152). -/
def tickFromPin (pin : Bool) (s : State) : State :=
  tickStep (pinLevel pin s) (envTick (driveOut s) s)

/-- The reset step of a tick with rst = 1: every element of the block takes its reset value; the environment, which
rst does not reach, sees drv_active = 0 for a tick (R260, R261, log 10). -/
def resetStep (s : State) : State := { State.reset with env := recordDrive false s.env }

end Sys2Proof.Machine
end

