-- ==== Sys2Proof/Machine/CommandPort.lean ====
section
/-! DEFINITION. Machine/CommandPort.lean: the command step (43_host_commands.md R190) and how an input of the outside
world becomes a step of the block (20_memory.md R57, log 1). -/

namespace Sys2Proof.Machine

/-- `CommandStep(cmd)` (R190): an ILLEGAL word is answered before anything else (R76, log 13). -/
def commandStep (w : Word) (s : State) : Host.Outcome State Fault Refusal :=
  match decode w with
  | some i => exec i s
  | none => .next (raise .illegal s)

/-- One step of the block on one input (R57, R150, R190, R260). A command offered while rst = 1 is ignored. -/
def runInput (x : Input) (s : State) : Host.Outcome State Fault Refusal :=
  match x with
  | .command w => commandStep w s
  | .tick ext => .next (tickInBus ext s)
  | .tickSense pin => .next (tickFromPin pin s)
  | .resetTick _ => .next (resetStep s)

/-- The input of the next step: the first one placed, else a free draw (log 1). -/
def nextInput (s : State) : Input :=
  match s.env.inputs with
  | [] => Config.freeInput s.env.draws
  | x :: _ => x

/-- The state with the next input taken out of the environment (log 1). -/
def takeInput (s : State) : State :=
  match s.env.inputs with
  | [] => { s with env := { s.env with draws := s.env.draws + 1 } }
  | _ :: rest => { s with env := { s.env with inputs := rest } }

/-- The state with one more input placed, to come next (log 2). -/
def placeInput (x : Input) (s : State) : State :=
  { s with env := { s.env with inputs := x :: s.env.inputs } }

end Sys2Proof.Machine
end

