-- ==== Sys2Proof/Machine/Step.lean ====
section
/-! DEFINITION. Machine/Step.lean: one step of the machine (20_memory.md R57). -/

namespace Sys2Proof.Machine

/-- One step: the next input of the outside world is taken and run. -/
def step (s : State) : Host.Outcome State Fault Refusal := runInput (nextInput s) (takeInput s)

/-- `s` with the command word of an `nbits`-bit table row offered on the command port, so that the very next step is
the command step on it (log 2). The word moves whole, so no byte order arises (R52). -/
def State.withFetchWord (s : State) (nbits w : Nat) : State :=
  placeInput (.command (BitVec.ofNat 32 (w % 2 ^ nbits))) s

end Sys2Proof.Machine
end

