-- ==== Sys2Proof/Safety.lean ====
section
/-! DEFINITION. Safety.lean: what holds of the block whenever a step has ended: the register ranges of 10_state.md R22,
the queue bounds of R40 and R41, what disabled means (R208, R241), and the shapes of TXSEQ, PENDING and CAP (R37 to
R39). `Invariant` joins them; statements take it where a state that no run reaches would be in the way. -/

namespace Sys2Proof.Machine

/-- Every configuration register holds a value of 10_state.md R22's legal range, and CTRL's reserved bits are 0 (R30). -/
abbrev RegistersLegal (c : CfgFile) : Prop :=
  1 ≤ c.teTicks.toNat ∧ c.tolPct.toNat ≤ 33 ∧ 1 ≤ c.longIdleTicks.toNat ∧ 1 ≤ c.busFailTicks.toNat
    ∧ 1 ≤ c.gapFwdTicks.toNat ∧ 1 ≤ c.gapBwdTicks.toNat ∧ 1 ≤ c.echoTimeoutTicks.toNat
    ∧ 1 ≤ c.breakTicks.toNat ∧ ctrlReserved c.ctrl = 0#22

/-- "No rule ever runs under" a configuration that breaks a joint constraint (93 I22): EN = 1 only with JC1 to JC5. -/
abbrev JointWhenEnabled (s : State) : Prop := s.en = true → jointOk s.cfg = true

/-- TXQ and EVQ within their capacities, every request narrower than its length (R40, R41). -/
abbrev QueuesBounded (s : State) : Prop :=
  s.txq.length ≤ Config.txqDepth ∧ s.evq.length ≤ Config.evqDepth
    ∧ ∀ r ∈ s.txq, r.data.toNat < 2 ^ r.len.bits

/-- What disabling leaves (R150, R208): nothing driven, captured, pending or queued while EN = 0. -/
abbrev QuietWhenDisabled (s : State) : Prop :=
  s.en = false → s.txseq = .idle ∧ s.cap = .off ∧ s.pending.valid = false ∧ s.txq = []

/-- While enabled the capture unit is off exactly while a break is driven (R161, R196, R207). -/
abbrev ArmedUnlessBreak (s : State) : Prop :=
  s.en = true → (s.cap = .off ↔ s.breakActive = true)

/-- TXSEQ within R38's bounds: 0 <= K < (2N + 4) x TE_TICKS and D < 2^N in SEND, 1 <= R <= BREAK_TICKS in BREAK, and
no outcome is pending during a break (R196). -/
def SequencerBounded (s : State) : Prop :=
  match s.txseq with
  | .idle => True
  | .send d n k => d.toNat < 2 ^ n.bits ∧ k < (2 * n.bits + 4) * s.cfg.teTicks.toNat
  | .brk r => 1 ≤ r ∧ r ≤ s.cfg.breakTicks.toNat ∧ s.pending.valid = false

/-- While an outcome is pending the descriptor holds a frame narrower than its length, the echo timer has not passed
ECHO_TIMEOUT_TICKS (R159, R242), and a frame still being driven is the descriptor's, K ticks after PT (R38, R163). -/
def PendingInStep (s : State) : Prop :=
  s.pending.valid = true →
    s.pending.data.toNat < 2 ^ s.pending.len.bits
      ∧ (s.now - s.pending.start).toNat ≤ s.cfg.echoTimeoutTicks.toNat
      ∧ ∀ d n k, s.txseq = .send d n k →
          d = s.pending.data ∧ n = s.pending.len ∧ k = (s.now - s.pending.start).toNat

/-- Neighbouring pulses have different levels. -/
def Alternating : List CapPulse → Prop
  | [] => True
  | [_] => True
  | a :: b :: rest => a.level ≠ b.level ∧ Alternating (b :: rest)

/-- A burst being recorded (R37, R154 to R158): at most 80 pulses, the first one active, levels alternating up to the
run in progress, and neither a completed pulse nor the run has reached the threshold of its level. -/
def BurstInProgress (c : CfgFile) (p : List CapPulse) (l : Level) (n : Reg24) : Prop :=
  p.length ≤ Config.capMaxPulses
    ∧ (∀ x ∈ p, 1 ≤ x.dur.toNat ∧ x.dur.toNat < burstLimit c x.level)
    ∧ (1 ≤ n.toNat ∧ n.toNat < burstLimit c l)
    ∧ Alternating p
    ∧ (∀ x ∈ p.head?, x.level = .active)
    ∧ (p = [] → l = .active)
    ∧ (p.length < Config.capMaxPulses → ∀ x ∈ p.getLast?, x.level ≠ l)

/-- CAP holds a burst only in that shape. -/
def CaptureWellFormed (s : State) : Prop :=
  ∀ p l n, s.cap = .run p l n → BurstInProgress s.cfg p l n

/-- IDLE_CNT counts consecutive idle ticks, so it is 0 while the line is active (R35, R153). -/
abbrev IdleCountFresh (s : State) : Prop := s.line = .active → s.idleCnt = 0#24

/-- The delay line of the environment is no longer than the delay (log 5). -/
abbrev DelayLineBounded (s : State) : Prop := s.env.drvHist.length ≤ s.env.loopDelay

/-- What holds of the block whenever a step has ended. -/
structure Invariant (s : State) : Prop where
  registers : RegistersLegal s.cfg
  joint : JointWhenEnabled s
  queues : QueuesBounded s
  quiet : QuietWhenDisabled s
  armed : ArmedUnlessBreak s
  sequencer : SequencerBounded s
  pending : PendingInStep s
  capture : CaptureWellFormed s
  idleCount : IdleCountFresh s
  delayLine : DelayLineBounded s

/-- The configuration registers in index order (10_state.md R22). -/
def CfgFile.toList (c : CfgFile) : List Reg24 :=
  [c.teTicks, c.tolPct, c.longIdleTicks, c.busFailTicks, c.gapFwdTicks, c.gapBwdTicks, c.echoTimeoutTicks,
    c.breakTicks, c.ctrl]

/-- Tick steps whose sampled levels are given by `sense`, oldest first (R150). -/
def runLevels (sense : List Level) (s : State) : State :=
  sense.foldl (fun t l => tickStep l t) s

/-- `k` ticks in the reference environment with no other unit driving (R152, R167). -/
def runAlone : Nat → State → State
  | 0, s => s
  | k + 1, s => runAlone k (tickInBus false s)

end Sys2Proof.Machine
end

