-- ==== Sys2Proof/Certificates/Slice0/Obligations.lean ====
section
/-! DEFINITION. Certificates/Slice0/Obligations.lean: what the spec's rules say of the model, stated for the provers.
Premises are about the state and the operands; `Invariant` (Safety.lean) is taken only where a state that no run
reaches would make a rule false, and is itself stated to hold at reset and to be kept by every step. -/

open Sys2Proof Sys2Proof.Machine

/-! ## The command word -/

/-- R74, R75, R85: no bit of a command's encoding is dropped. -/
def Obligations.DecodeOfEncode : Prop :=
  ∀ i : Instr, i.wellFormed = true → decode (encode i) = some i

/-- R74, R76: a word that decodes is the word of the command it decodes to, so no two words mean one command. -/
def Obligations.EncodeOfDecode : Prop :=
  ∀ (w : Word) (i : Instr), decode w = some i → i.wellFormed = true ∧ encode i = w

/-- R76 (and R209): a word is ILLEGAL exactly when one of the listed conditions holds, and its command step answers
`respond(ILLEGAL, 0)` and changes nothing else. -/
def Obligations.ReservedWordsAnswerIllegal : Prop :=
  ∀ w : Word,
    (decode w = none ↔
      (0xA ≤ (w.extractLsb' 28 4).toNat)
      ∨ (w.extractLsb' 28 4 = 0x1#4 ∧ w.extractLsb' 24 2 = 3#2)
      ∨ ((w.extractLsb' 28 4 = 0x6#4 ∨ w.extractLsb' 28 4 = 0x7#4) ∧ 9 ≤ (w.extractLsb' 24 4).toNat)
      ∨ ((w.extractLsb' 28 4).toNat ∈ [0x0, 0x2, 0x3, 0x4, 0x5] ∧ w.extractLsb' 0 28 ≠ 0#28)
      ∨ (w.extractLsb' 28 4 = 0x1#4 ∧ w.extractLsb' 26 2 ≠ 0#2)
      ∨ (w.extractLsb' 28 4 = 0x7#4 ∧ w.extractLsb' 0 24 ≠ 0#24)
      ∨ ((w.extractLsb' 28 4 = 0x8#4 ∨ w.extractLsb' 28 4 = 0x9#4) ∧ w.extractLsb' 1 27 ≠ 0#27))
    ∧ ∀ (s : State) (rest : List Input), s.env.inputs = .command w :: rest → decode w = none →
        step s = .next { s with rspStatus := .illegal, rspData := 0, env := { s.env with inputs := rest } }

/-- R85, R86: words the spec writes out decode to the commands they stand for. -/
def Obligations.SpecWordsDecode : Prop :=
  decodeTableWord 32 0x00000000 = some .nop
    ∧ decodeTableWord 32 0x100000A5 = some (.tx8 0xA5)
    ∧ decodeTableWord 32 0x1100FE80 = some (.tx16 0xFE80)
    ∧ decodeTableWord 32 0x12A1B2C3 = some (.tx24 0xA1B2C3)
    ∧ decodeTableWord 32 0x60000341 = some (.cfgw 0 833)
    ∧ decodeTableWord 32 0x76000000 = some (.cfgr 6)
    ∧ decodeTableWord 32 0x68000003 = some Instr.enableIrq
    ∧ decodeTableWord 32 0x80000001 = some Instr.clrovf
    ∧ decodeTableWord 32 0x90000001 = some .rdedge
    ∧ decodeTableWord 32 0x13000000 = none

/-- R85: the word of every command with operands, as the spec writes it with shifts and ors. -/
def Obligations.AssemblerWords : Prop :=
  ∀ (d : Reg24) (idx : BitVec 4) (m : Bool),
    encode (.tx8 d) = 0x10000000#32 ||| d.zeroExtend 32
      ∧ encode (.tx16 d) = 0x11000000#32 ||| d.zeroExtend 32
      ∧ encode (.tx24 d) = 0x12000000#32 ||| d.zeroExtend 32
      ∧ encode (.cfgw idx d) = 0x60000000#32 ||| (idx.zeroExtend 32 <<< 24) ||| d.zeroExtend 32
      ∧ encode (.cfgr idx) = 0x70000000#32 ||| (idx.zeroExtend 32 <<< 24)
      ∧ encode (.clrf m) = 0x80000000#32 ||| BitVec.ofNat 32 m.toNat

/-! ## Steps -/

/-- R190 with R57: when the next input is a command word that decodes to `i`, the step is `exec i` once the input is taken from
the environment. How the host's inputs stand in the state is the model's choice (log 1). -/
def Obligations.StepRunsDecodedCommand : Prop :=
  ∀ (s : State) (w : Word) (rest : List Input) (i : Instr),
    s.env.inputs = .command w :: rest → decode w = some i →
      step s = exec i { s with env := { s.env with inputs := rest } }

/-- R57, R150, R152: when the next input is a tick, the step is the tick step on the sensed level, which in the reference
environment is active when the other units drive, or the block drove ENV_LOOP_DELAY ticks ago. The list of inputs, the
delay line and the board's polarity in `env` are the model's choice (logs 1, 5, 6). -/
def Obligations.StepRunsTick : Prop :=
  ∀ (s : State) (rest : List Input),
    (∀ ext, s.env.inputs = .tick ext :: rest →
      step s = .next (tickStep
        (if ext = true ∨ (driveOut s :: s.env.drvHist)[s.env.loopDelay]? = some true then .active else .idle)
        { s with env := { s.env with
            inputs := rest, drvHist := (driveOut s :: s.env.drvHist).take s.env.loopDelay } }))
    ∧ (∀ pin, s.env.inputs = .tickSense pin :: rest →
      step s = .next (tickStep (if pin = s.env.boardInverted then .idle else .active)
        { s with env := { s.env with
            inputs := rest, drvHist := (driveOut s :: s.env.drvHist).take s.env.loopDelay } }))

/-- R150 ("always completes"), R190, R230: no step stops the machine, whatever the input is. -/
def Obligations.EveryStepCompletes : Prop :=
  ∀ s : State, ∃ t, step s = .next t

/-- R260, R261: the machine starts with every element at its reset value, and a tick with rst = 1 gives every element
that value again, whatever the state was and whatever command is offered in it. -/
def Obligations.ResetTickResets : Prop :=
  let atReset := fun t : State =>
    t.cfg.toList = [417, 20, 1668, 500000, 9174, 13500, 43368, 1300, 0]
      ∧ t.now = 0 ∧ t.line = .idle ∧ t.lastEdge = 0 ∧ t.idleCnt = 0 ∧ t.lastKind = .unknown
      ∧ t.cap = .off ∧ t.txseq = .idle ∧ t.pending.valid = false ∧ t.txq = [] ∧ t.evq = []
      ∧ t.evqOvf = false ∧ t.drvActive = false ∧ t.irq = false
  atReset State.reset
    ∧ ∀ (s : State) (offered : Option Word) (rest : List Input), s.env.inputs = .resetTick offered :: rest →
      ∃ t, step s = .next t ∧ atReset t

/-! ## Commands -/

/-- R195: NOP answers OK, 0 and changes nothing; only the word 0 is NOP. -/
def Obligations.NopByRule : Prop :=
  (∀ w, decode w = some .nop ↔ w = 0x00000000#32)
    ∧ (∀ w : Word, w.extractLsb' 28 4 = 0#4 → w.extractLsb' 0 28 ≠ 0#28 → decode w = none)
    ∧ ∀ s, exec .nop s = .next { s with rspStatus := .ok, rspData := 0 }

/-- R191 to R194: a TX command queues its request and answers the new count; DISABLED, BAD_ARG and FULL are tested in
that order and change nothing; TX24 has no BAD_ARG. -/
def Obligations.TxRequestByRule : Prop :=
  ∀ (s : State) (d : Reg24) (i : Instr) (len : FrameLen),
    (i, len) ∈ [(Instr.tx8 d, FrameLen.b8), (Instr.tx16 d, FrameLen.b16), (Instr.tx24 d, FrameLen.b24)] →
    (s.en = false → exec i s = .next { s with rspStatus := .disabled, rspData := 0 })
    ∧ (s.en = true → 2 ^ len.bits ≤ d.toNat → exec i s = .next { s with rspStatus := .badArg, rspData := 0 })
    ∧ (s.en = true → d.toNat < 2 ^ len.bits → s.txq.length = 4 →
        exec i s = .next { s with rspStatus := .full, rspData := 0 })
    ∧ (s.en = true → d.toNat < 2 ^ len.bits → s.txq.length ≠ 4 →
        exec i s = .next { s with
          txq := s.txq ++ [⟨d, len⟩], rspStatus := .ok, rspData := BitVec.ofNat 32 (s.txq.length + 1) })

/-- R196: BREAK starts driving for BREAK_TICKS and stops the capture; DISABLED and BUSY are tested in that order.
That drv_active shows the change from the next tick only is the model's reading (log 8). -/
def Obligations.BreakByRule : Prop :=
  ∀ s : State,
    (s.en = false → exec .brk s = .next { s with rspStatus := .disabled, rspData := 0 })
    ∧ (s.en = true → s.txseq ≠ .idle ∨ s.pending.valid = true →
        exec .brk s = .next { s with rspStatus := .busy, rspData := 0 })
    ∧ (s.en = true → s.txseq = .idle → s.pending.valid = false →
        exec .brk s = .next { s with
          txseq := .brk s.cfg.breakTicks.toNat, cap := .off, rspStatus := .ok, rspData := 0 })

/-- R197: EVPOP takes the oldest event, or answers 0 from an empty queue; a queued event's TYPE is never 0. -/
def Obligations.EvpopByRule : Prop :=
  (∀ w, decode w = some .evpop ↔ w = 0x30000000#32)
    ∧ (∀ w : Word, w.extractLsb' 28 4 = 3#4 → w.extractLsb' 0 28 ≠ 0#28 → decode w = none)
    ∧ (∀ s : State, s.evq = [] → exec .evpop s = .next { s with rspStatus := .ok, rspData := 0 })
    ∧ (∀ (s : State) ev rest, s.evq = ev :: rest →
        exec .evpop s = .next { s with evq := rest, rspStatus := .ok, rspData := eventWord ev })
    ∧ ∀ ev : Event, (eventWord ev).extractLsb' 29 3 ≠ 0#3

/-- R198: EVFLUSH discards every event, answers their number and keeps EVQ_OVF. -/
def Obligations.EvflushByRule : Prop :=
  (∀ w, decode w = some .evflush ↔ w = 0x40000000#32)
    ∧ (∀ w : Word, w.extractLsb' 28 4 = 4#4 → w.extractLsb' 0 28 ≠ 0#28 → decode w = none)
    ∧ ∀ s : State, exec .evflush s =
        .next { s with evq := [], rspStatus := .ok, rspData := BitVec.ofNat 32 s.evq.length }

/-- R81, R199: STATUS changes nothing and answers the status word, every field of it. -/
def Obligations.StatusWordByRule : Prop :=
  (∀ w, decode w = some .status ↔ w = 0x50000000#32)
  ∧ (∀ w : Word, w.extractLsb' 28 4 = 5#4 → w.extractLsb' 0 28 ≠ 0#28 → decode w = none)
  ∧ ∀ s : State, ∃ w : Word, exec .status s = .next { s with rspStatus := .ok, rspData := w }
    ∧ w.getLsbD 0 = s.cfg.ctrl.getLsbD 0
    ∧ (w.getLsbD 1 = true ↔ ∃ d n k, s.txseq = .send d n k)
    ∧ (w.getLsbD 2 = true ↔ ∃ r, s.txseq = .brk r)
    ∧ w.getLsbD 3 = s.pending.valid
    ∧ (w.getLsbD 4 = true ↔ s.line = .active)
    ∧ (w.getLsbD 5 = true ↔ s.line = .idle ∧
        (if s.lastKind = .fwd then s.cfg.gapFwdTicks.toNat else s.cfg.gapBwdTicks.toNat) ≤ s.idleCnt.toNat)
    ∧ (w.getLsbD 6 = true ↔ ∃ p l n, s.cap = .run p l n)
    ∧ w.getLsbD 7 = s.evqOvf
    ∧ (w.extractLsb' 8 2).toNat = (match s.lastKind with | .unknown => 0 | .fwd => 1 | .bwd => 2)
    ∧ w.extractLsb' 10 2 = 0#2
    ∧ w.extractLsb' 12 4 = BitVec.ofNat 4 s.txq.length
    ∧ w.extractLsb' 16 8 = BitVec.ofNat 8 s.evq.length
    ∧ (w.getLsbD 24 = true ↔ s.cfg.ctrl.getLsbD 1 = true ∧ s.evq ≠ [])
    ∧ w.extractLsb' 25 7 = 0#7

/-- R200: CFGW of a timing register: BUSY while enabled, then BAD_ARG for a value outside R22's range, then exactly
that register is written. A CFGW word holds the index in bits 27:24, at most 8, and the value in bits 23:0. -/
def Obligations.CfgwTimingByRule : Prop :=
  (∀ (w : Word) (idx : BitVec 4) (v : Reg24), decode w = some (.cfgw idx v) ↔
      w &&& 0xF0000000#32 = 0x60000000#32 ∧ idx = w.extractLsb' 24 4 ∧ v = w.extractLsb' 0 24 ∧ idx.toNat ≤ 8)
  ∧ ∀ (s : State) (idx : BitVec 4) (v : Reg24), idx.toNat ≤ 7 →
    (s.en = true → exec (.cfgw idx v) s = .next { s with rspStatus := .busy, rspData := 0 })
    ∧ (s.en = false → ((idx.toNat = 1 ∧ 33 < v.toNat) ∨ (idx.toNat ≠ 1 ∧ v = 0#24)) →
        exec (.cfgw idx v) s = .next { s with rspStatus := .badArg, rspData := 0 })
    ∧ (s.en = false → (idx.toNat = 1 → v.toNat ≤ 33) → (idx.toNat ≠ 1 → v ≠ 0#24) →
        ∃ c : CfgFile, c.toList = s.cfg.toList.set idx.toNat v
          ∧ exec (.cfgw idx v) s = .next { s with cfg := c, rspStatus := .ok, rspData := 0 })

/-- R201, R206: a CTRL write with a reserved bit, or one that enables under a broken joint constraint, is BAD_ARG and
changes nothing. -/
def Obligations.CtrlWriteRefused : Prop :=
  ∀ (s : State) (v : Reg24),
    (v.extractLsb' 2 22 ≠ 0#22
      ∨ (s.en = false ∧ v.getLsbD 0 = true
        ∧ ¬ (2 * s.cfg.teTicks.toNat * (100 + s.cfg.tolPct.toNat) < 100 * s.cfg.longIdleTicks.toNat
          ∧ 2 * s.cfg.teTicks.toNat * (100 + s.cfg.tolPct.toNat) < 100 * s.cfg.busFailTicks.toNat
          ∧ s.cfg.longIdleTicks.toNat ≤ s.cfg.gapFwdTicks.toNat
          ∧ s.cfg.gapFwdTicks.toNat < s.cfg.gapBwdTicks.toNat
          ∧ 52 * s.cfg.teTicks.toNat + s.cfg.longIdleTicks.toNat < s.cfg.echoTimeoutTicks.toNat))) →
    exec (.cfgw 8 v) s = .next { s with rspStatus := .badArg, rspData := 0 }

/-- R201, R206, R207: writing EN = 1 while EN = 0, with no reserved bit and JC1 to JC5, enables the block. -/
def Obligations.EnableByRule : Prop :=
  ∀ (s : State) (v : Reg24), s.en = false → v.getLsbD 0 = true → v.extractLsb' 2 22 = 0#22 →
    2 * s.cfg.teTicks.toNat * (100 + s.cfg.tolPct.toNat) < 100 * s.cfg.longIdleTicks.toNat →
    2 * s.cfg.teTicks.toNat * (100 + s.cfg.tolPct.toNat) < 100 * s.cfg.busFailTicks.toNat →
    s.cfg.longIdleTicks.toNat ≤ s.cfg.gapFwdTicks.toNat →
    s.cfg.gapFwdTicks.toNat < s.cfg.gapBwdTicks.toNat →
    52 * s.cfg.teTicks.toNat + s.cfg.longIdleTicks.toNat < s.cfg.echoTimeoutTicks.toNat →
    exec (.cfgw 8 v) s = .next { s with
      cfg := { s.cfg with ctrl := v }, cap := .wait, lastKind := .unknown, rspStatus := .ok, rspData := 0 }

/-- R201, R208: writing EN = 0 while EN = 1 stops driving, capturing and the pending outcome, and empties TXQ; EVQ,
EVQ_OVF, LAST_KIND and the line monitor are kept.
That drv_active shows the change from the next tick only is the model's reading (log 8). -/
def Obligations.DisableByRule : Prop :=
  ∀ (s : State) (v : Reg24), s.en = true → v.getLsbD 0 = false → v.extractLsb' 2 22 = 0#22 →
    ∃ p : Pending, p.valid = false ∧
      exec (.cfgw 8 v) s = .next { s with
        cfg := { s.cfg with ctrl := v }, txseq := .idle, cap := .off, pending := p, txq := [],
        rspStatus := .ok, rspData := 0 }

/-- R201: a CTRL write that leaves EN as it is has no effect but the register's. -/
def Obligations.CtrlWriteKeepingEn : Prop :=
  ∀ (s : State) (v : Reg24), v.getLsbD 0 = s.en → v.extractLsb' 2 22 = 0#22 →
    exec (.cfgw 8 v) s = .next { s with cfg := { s.cfg with ctrl := v }, rspStatus := .ok, rspData := 0 }

/-- R202, R209: CFGR answers the register its index names, zero-extended, and changes nothing; CTRL's reserved bits read
as 0; a CFGR word has bits 23:0 clear and an index up to 8; CFGW and CFGR answer ILLEGAL for an index that names no register, and change nothing. -/
def Obligations.CfgrByRule : Prop :=
  (∀ (w : Word) (idx : BitVec 4), decode w = some (.cfgr idx) ↔
      w &&& 0xF0FFFFFF#32 = 0x70000000#32 ∧ idx = w.extractLsb' 24 4 ∧ idx.toNat ≤ 8)
    ∧ (∀ w : Word, w.extractLsb' 28 4 = 7#4 →
        9 ≤ (w.extractLsb' 24 4).toNat ∨ w.extractLsb' 0 24 ≠ 0#24 → decode w = none)
    ∧ (∀ w : Word, w.extractLsb' 28 4 = 6#4 → 9 ≤ (w.extractLsb' 24 4).toNat → decode w = none)
    ∧ (∀ (s : State) (idx : BitVec 4), idx.toNat ≤ 8 → ∃ r : Reg24, s.cfg.toList[idx.toNat]? = some r
        ∧ exec (.cfgr idx) s = .next { s with rspStatus := .ok, rspData := r.zeroExtend 32 })
    ∧ (∀ s : State, Invariant s → ∃ t, exec (.cfgr 8) s = .next t ∧ t.rspData.extractLsb' 2 30 = 0#30)
    ∧ ∀ (s : State) (idx : BitVec 4) (v : Reg24), 9 ≤ idx.toNat →
        exec (.cfgw idx v) s = .next { s with rspStatus := .illegal, rspData := 0 }
        ∧ exec (.cfgr idx) s = .next { s with rspStatus := .illegal, rspData := 0 }

/-- R203: CLRF #1 clears EVQ_OVF, CLRF #0 changes nothing; a word with any of bits 27:1 set is no CLRF. -/
def Obligations.ClrfByRule : Prop :=
  (∀ (w : Word) (m : Bool), decode w = some (.clrf m) ↔
      w &&& 0xFFFFFFFE#32 = 0x80000000#32 ∧ m = w.getLsbD 0)
    ∧ (∀ w : Word, w.extractLsb' 28 4 = 8#4 → w.extractLsb' 1 27 ≠ 0#27 → decode w = none)
    ∧ (∀ s, exec (.clrf true) s = .next { s with evqOvf := false, rspStatus := .ok, rspData := 0 })
    ∧ ∀ s, exec (.clrf false) s = .next { s with rspStatus := .ok, rspData := 0 }

/-- R204, R205: RDNOW answers NOW and RDEDGE answers LAST_EDGE; neither changes anything. -/
def Obligations.TimestampReadsByRule : Prop :=
  (∀ w, decode w = some .rdnow ↔ w = 0x90000000#32)
    ∧ (∀ w, decode w = some .rdedge ↔ w = 0x90000001#32)
    ∧ (∀ w : Word, w.extractLsb' 28 4 = 9#4 → w.extractLsb' 1 27 ≠ 0#27 → decode w = none)
    ∧ (∀ s, exec .rdnow s = .next { s with rspStatus := .ok, rspData := s.now })
    ∧ ∀ s, exec .rdedge s = .next { s with rspStatus := .ok, rspData := s.lastEdge }

/-- A response other than OK has data 0 and its command step changed no state: the first sentence of R210, which the spec
marks as its own inference ("derived: from rules R190 to R209"). -/
def Obligations.RefusedCommandChangesNothing : Prop :=
  ∀ (w : Word) (s t : State), commandStep w s = .next t → t.rspStatus ≠ .ok →
    t = { s with rspStatus := t.rspStatus, rspData := 0 }

/-- Which commands work while EN = 0, which answer DISABLED then, and which answer BUSY while EN = 1: R211, which the spec
marks as its own inference ("derived: from rules R191 to R205"). -/
def Obligations.ResponsesByEnable : Prop :=
  ∀ (s : State) (i : Instr),
    (s.en = false → i ∈ [.nop, .evpop, .evflush, .status, .rdnow, .rdedge]
        ∨ (∃ m, i = .clrf m) ∨ (∃ idx, idx.toNat ≤ 8 ∧ i = .cfgr idx) →
      ∃ t, exec i s = .next t ∧ t.rspStatus = .ok)
    ∧ (s.en = false → (∃ idx v, idx.toNat ≤ 8 ∧ i = .cfgw idx v) →
      ∃ t, exec i s = .next t ∧ (t.rspStatus = .ok ∨ t.rspStatus = .badArg))
    ∧ (s.en = false → i = .brk ∨ (∃ d, i = .tx8 d ∨ i = .tx16 d ∨ i = .tx24 d) →
      ∃ t, exec i s = .next t ∧ t.rspStatus = .disabled)
    ∧ (s.en = true → (∃ idx v, idx.toNat ≤ 7 ∧ i = .cfgw idx v) →
      ∃ t, exec i s = .next t ∧ t.rspStatus = .busy)

/-- R55, R56: no command moves the tick counter, the line monitor or the environment, none emits or reorders an event,
and none but CLRF writes EVQ_OVF (R203). That drv_active keeps what the last tick step drove, also after a BREAK, a
DISABLE or any other command, until the next tick, is the model's reading (log 8, DEDUCED and unsafe between a command
and the next tick, where R43 read literally ties the port to TXSEQ); the spec's sentence it is read from is R267's. -/
def Obligations.CommandsKeepLineMonitor : Prop :=
  ∀ (i : Instr) (s t : State), exec i s = .next t →
    t.now = s.now ∧ t.line = s.line ∧ t.lastEdge = s.lastEdge ∧ t.idleCnt = s.idleCnt
      ∧ t.drvActive = s.drvActive ∧ t.env = s.env
      ∧ (∃ k, t.evq = s.evq.drop k)
      ∧ ((∀ m, i ≠ .clrf m) → t.evqOvf = s.evqOvf)

/-- R55: NOP, STATUS, CFGR, RDNOW and RDEDGE have no side effect: only the response changes, and issuing one again
gives the same response. -/
def Obligations.ReadOnlyCommandsIdempotent : Prop :=
  ∀ (i : Instr) (s t : State),
    i ∈ [.nop, .status, .rdnow, .rdedge] ∨ (∃ idx, i = .cfgr idx) → exec i s = .next t →
    t = { s with rspStatus := t.rspStatus, rspData := t.rspData } ∧ exec i t = .next t

/-- R44: the response to a command does not depend on what a program cannot see directly: the contents of CAP, TXSEQ's
D, N, K and R, PD, PN and PT (nor on the requests in TXQ beyond their number). -/
def Obligations.ResponsesHideInternals : Prop :=
  ∀ (i : Instr) (s s' t t' : State),
    s.cfg = s'.cfg → s.now = s'.now → s.line = s'.line → s.lastEdge = s'.lastEdge → s.idleCnt = s'.idleCnt →
    s.lastKind = s'.lastKind → s.capRun = s'.capRun → s.txBusy = s'.txBusy → s.breakActive = s'.breakActive →
    s.pending.valid = s'.pending.valid → s.txq.length = s'.txq.length → s.evq = s'.evq → s.evqOvf = s'.evqOvf →
    exec i s = .next t → exec i s' = .next t' →
    t.rspStatus = t'.rspStatus ∧ t.rspData = t'.rspData

/-! ## Encoder and decoder -/

/-- The decoder reads back every frame the encoder can produce, as it stands and as the capture unit records it: R113
("Round trip"), which the spec marks as its own inference. -/
def Obligations.FrameRoundTrip : Prop :=
  ∀ (c : CfgFile) (len : FrameLen) (d : Nat), RegistersLegal c → jointOk c = true → d < 2 ^ len.bits →
    decodeBurst c (pulsesOf (encodeFrame d len.bits) c.teTicks.toNat) = .frame d len.bits
    ∧ decodeBurst c ((pulsesOf (encodeFrame d len.bits) c.teTicks.toNat).dropLast
        ++ [(.idle, c.longIdleTicks.toNat)]) = .frame d len.bits

/-- A burst whose BODY holds a pulse outside both bands never decodes to a frame of fewer than 32 bits; unless its first
pulse is a bus failure (R106), the result is a framing error or a 32-bit frame. R114 ("Robustness"), which the spec
marks as its own inference; log 15 says how the bus failure is read. -/
def Obligations.BadPulseNeverValidFrame : Prop :=
  ∀ (c : CfgFile) (burst : List Pulse), (∃ p ∈ bodyOf c burst, classify c p.2 = .bad) →
    (∀ v n, decodeBurst c burst = .frame v n → n = 32)
    ∧ ((∀ p ∈ burst.head?, ¬ (p.1 = .active ∧ c.busFailTicks.toNat ≤ p.2)) →
        (∃ e, decodeBurst c burst = .err e) ∨ ∃ v, decodeBurst c burst = .frame v 32)

/-- Keeping only the first 80 pulses of a burst in which no pulse before the last reaches its level's threshold never
changes the decoded result: R115 ("Truncation"), which the spec marks as its own inference. -/
def Obligations.TruncationKeepsResult : Prop :=
  ∀ (c : CfgFile) (burst : List Pulse), 80 < burst.length →
    (∀ p ∈ burst.dropLast, p.2 < burstLimit c p.1) →
    decodeBurst c (burst.take 80) = decodeBurst c burst

/-- R103: a duration is ONE exactly in the closed band around TE, TWO exactly in the closed band around 2 x TE and BAD
exactly outside both. That with TOL_PCT <= 33 no duration lies in both bands, and that with TOL_PCT = 0 only TE and
2 x TE are accepted, is R104, which the spec marks as its own inference ("derived: from rule R103"). -/
def Obligations.ToleranceBandsDisjoint : Prop :=
  ∀ (c : CfgFile),
    let te : Int := c.teTicks.toNat
    let tol : Int := c.tolPct.toNat
    (∀ d : Nat,
      (classify c d = .one ↔ 100 * |(d : Int) - te| ≤ tol * te)
      ∧ (classify c d = .bad ↔ ¬ 100 * |(d : Int) - te| ≤ tol * te ∧ ¬ 100 * |(d : Int) - 2 * te| ≤ 2 * tol * te))
    ∧ (1 ≤ te → tol ≤ 33 → ∀ d : Nat,
      (classify c d = .two ↔ 100 * |(d : Int) - 2 * te| ≤ 2 * tol * te)
      ∧ ¬ (100 * |(d : Int) - te| ≤ tol * te ∧ 100 * |(d : Int) - 2 * te| ≤ 2 * tol * te))
    ∧ (1 ≤ te → tol = 0 → ∀ d : Nat,
      (classify c d = .one ↔ (d : Int) = te) ∧ (classify c d = .two ↔ (d : Int) = 2 * te))

/-- A frame has 2N + 4 half-bits in at most 2N + 2 runs; every run but the last has one or two half-bits, and the last is
idle with two when D[0] = 0 and three when D[0] = 1: R101 and R102, which the spec marks as derived from R100. -/
def Obligations.FramePulseShape : Prop :=
  ∀ (d n : Nat), 1 ≤ n →
    (encodeFrame d n).length = 2 * n + 4
    ∧ (levelRuns (encodeFrame d n)).length ≤ 2 * n + 2
    ∧ (∀ p ∈ (levelRuns (encodeFrame d n)).dropLast, p.2 = 1 ∨ p.2 = 2)
    ∧ (levelRuns (encodeFrame d n)).getLast? = some (.idle, if d.testBit 0 then 3 else 2)
    ∧ ∀ te, ((pulsesOf (encodeFrame d n) te).map (·.2)).sum = (2 * n + 4) * te

/-- R53, R100: the symbols of a frame: start bit, then bit `N - 1 - i` of D at position i, then the stop condition. -/
def Obligations.FrameSymbolsMsbFirst : Prop :=
  ∀ (d n : Nat),
    (encodeFrame d n)[0]? = some .active ∧ (encodeFrame d n)[1]? = some .idle
    ∧ (∀ i, i < n →
        (encodeFrame d n)[2 + 2 * i]? = some (if d.testBit (n - 1 - i) then .active else .idle)
        ∧ (encodeFrame d n)[3 + 2 * i]? = some (if d.testBit (n - 1 - i) then .idle else .active))
    ∧ (encodeFrame d n)[2 * n + 2]? = some .idle ∧ (encodeFrame d n)[2 * n + 3]? = some .idle
    ∧ (encodeFrame d n)[2 * n + 4]? = none

/-- R106, R112: the results Decode gives before it reads a bit, and the bounds of a decoded frame: at most 32 bits
and a value below 2 to its length. -/
def Obligations.DecodeBoundsAndEmptyBursts : Prop :=
  ∀ (c : CfgFile),
    decodeBurst c [] = .noFrame
    ∧ (∀ d rest, c.busFailTicks.toNat ≤ d → decodeBurst c ((.active, d) :: rest) = .busFail)
    ∧ (∀ d rest, c.longIdleTicks.toNat ≤ d → decodeBurst c ((.idle, d) :: rest) = .noFrame)
    ∧ (∀ d, decodeBurst c [(.idle, d)] = .noFrame)
    ∧ ∀ (burst : List Pulse) (v n : Nat), decodeBurst c burst = .frame v n → n ≤ 32 ∧ v < 2 ^ n

/-- R105, R107: the half-bits Decode reads of a burst that does not begin with a bus failure (R106): one level for a
pulse in the band of R103 around TE, two for one in the band around 2 x TE, X for any other, pulse by pulse up to the
terminating idle, which is the first long idle or else a last idle pulse, and behind which nothing is read. -/
def Obligations.BurstReadAsHalfBits : Prop :=
  ∀ (c : CfgFile) (body : List Pulse),
    let te : Int := c.teTicks.toNat
    let tol : Int := c.tolPct.toNat
    let expand := fun p : Pulse =>
      if 100 * |(p.2 : Int) - te| ≤ tol * te then [HalfBit.level p.1]
      else if 100 * |(p.2 : Int) - 2 * te| ≤ 2 * tol * te then [HalfBit.level p.1, HalfBit.level p.1]
      else [HalfBit.bad]
    body ≠ [] → (∀ p ∈ body.head?, ¬ (p.1 = .active ∧ c.busFailTicks.toNat ≤ p.2)) →
    (∀ p ∈ body, ¬ (p.1 = .idle ∧ c.longIdleTicks.toNat ≤ p.2)) →
    (∀ d rest, c.longIdleTicks.toNat ≤ d →
      decodeBurst c (body ++ (.idle, d) :: rest) = decodeHalfBits (body.flatMap expand) true)
    ∧ (∀ d, decodeBurst c (body ++ [(.idle, d)]) = decodeHalfBits (body.flatMap expand) true)
    ∧ ((∀ p ∈ body.getLast?, p.1 = .active) → decodeBurst c body = decodeHalfBits (body.flatMap expand) false)

/-- R107 to R111: what a burst that does not begin with the start bit decodes to; and after a start bit and the n data
bits of d, what stands at the next position decides the result: a stop, an error for the first fault in wire order,
TRAILING behind a stop inside the burst; a 32nd bit ends decoding whatever follows. `terminated` says whether a
terminating idle pulse follows the half-bits. BurstReadAsHalfBits says which half-bits a burst's pulses are. -/
def Obligations.DecodeOutcomeByNextPosition : Prop :=
  (∀ (terminated : Bool) (rest : List HalfBit),
    decodeHalfBits (.bad :: rest) terminated = .err .badDuration
    ∧ (∀ l, decodeHalfBits (.level l :: .bad :: rest) terminated = .err .badDuration)
    ∧ (∀ b, decodeHalfBits (.level .idle :: .level b :: rest) terminated = .err .noStart)
    ∧ decodeHalfBits (.level .active :: .level .active :: rest) terminated = .err .noStart
    ∧ (∀ l, decodeHalfBits [.level l] false = .err .noStop)
    ∧ decodeHalfBits [.level .idle] true = .err .noStart
    ∧ decodeHalfBits [.level .active] true = .frame 0 0)
  ∧ ∀ (d n : Nat) (terminated : Bool) (tail : List HalfBit), d < 2 ^ n →
    let result := decodeHalfBits
      (.level .active :: .level .idle :: ((dataSymbols d n).map .level ++ tail)) terminated
    (n = 32 → result = .frame d 32)
    ∧ (n < 32 →
      (∀ rest, tail = .bad :: rest → result = .err .badDuration)
      ∧ (∀ l rest, tail = .level l :: .bad :: rest → result = .err .badDuration)
      ∧ (∀ rest, tail = .level .active :: .level .active :: rest → result = .err .badSymbol)
      ∧ (tail = [.level .idle, .level .idle] → result = .frame d n)
      ∧ (∀ x rest, tail = .level .idle :: .level .idle :: x :: rest → result = .err .trailing)
      ∧ (terminated = false → tail = [] ∨ (∃ l, tail = [.level l]) → result = .err .noStop)
      ∧ (terminated = true → tail = [] ∨ tail = [.level .idle] → result = .frame d n)
      ∧ (terminated = true → tail = [.level .active] → result = .frame (2 * d + 1) (n + 1)))

/-! ## Comparator and collision detector -/

/-- R130 to R134: a burst resolved while an outcome is pending gives one event, closes the descriptor and sets
LAST_KIND; the length is compared before the value; a bus failure also stops a frame being sent. -/
def Obligations.ResolvePendingByRule : Prop :=
  ∀ (s : State) (burst : List CapPulse), s.pending.valid = true →
    let r := decodeBurst s.cfg (burst.map CapPulse.pulse)
    let ends := fun (ev : Event) (k : Kind) (seq : TxSeq) =>
      ∃ p : Pending, p.valid = false
        ∧ resolve burst s = { emit ev s with pending := p, lastKind := k, txseq := seq }
    (r = .busFail → ends (.busFailure true) .unknown
        (match s.txseq with | .send _ _ _ => .idle | .brk r => .brk r | .idle => .idle))
    ∧ (r = .noFrame → ends (.collisionDetected .emptyEcho) .unknown s.txseq)
    ∧ (∀ e, r = .err e → ends (.collisionDetected (.framing e)) .unknown s.txseq)
    ∧ (∀ v n, r = .frame v n → n ≠ s.pending.len.bits →
        ends (.collisionDetected (.lenMismatch (BitVec.ofNat 6 n))) .unknown s.txseq)
    ∧ (∀ v, r = .frame v s.pending.len.bits → v ≠ s.pending.data.toNat →
        ends (.collisionDetected (.dataMismatch (BitVec.ofNat 24 v))) .unknown s.txseq)
    ∧ (r = .frame s.pending.data.toNat s.pending.len.bits →
        ends (.txCompleted s.pending.len s.pending.data) (if s.pending.len = .b8 then .bwd else .fwd) s.txseq)

/-- R135: a burst resolved with nothing pending: a bus failure, nothing, a frame error or a received frame. -/
def Obligations.ResolveIdleByRule : Prop :=
  ∀ (s : State) (burst : List CapPulse), s.pending.valid = false →
    let r := decodeBurst s.cfg (burst.map CapPulse.pulse)
    let ends := fun (ev : Event) (k : Kind) => { emit ev s with lastKind := k }
    (r = .busFail → resolve burst s = ends (.busFailure false) .unknown)
    ∧ (r = .noFrame → resolve burst s = s)
    ∧ (∀ e, r = .err e → resolve burst s = ends (.frameError (.framing e)) .unknown)
    ∧ (∀ v, r = .frame v 8 → resolve burst s = ends (.frameReceived .b8 (BitVec.ofNat 24 v)) .bwd)
    ∧ (∀ v, r = .frame v 16 → resolve burst s = ends (.frameReceived .b16 (BitVec.ofNat 24 v)) .fwd)
    ∧ (∀ v, r = .frame v 24 → resolve burst s = ends (.frameReceived .b24 (BitVec.ofNat 24 v)) .fwd)
    ∧ (∀ v n, r = .frame v n → n ≠ 8 → n ≠ 16 → n ≠ 24 →
        resolve burst s = ends (.frameError (.nonstandardLength (BitVec.ofNat 6 n))) .unknown)

/-- While an outcome is pending, a decoded echo that differs from the descriptor in length or in value is reported as
COLLISION_DETECTED, and TX_COMPLETED is reported only of an exact match: R138 ("Collision law"), which the spec marks
as its own inference ("derived: from rule R134"). -/
def Obligations.CollisionLaw : Prop :=
  ∀ (s : State) (burst : List CapPulse), s.pending.valid = true → s.evq.length < 16 →
    (∀ v n, decodeBurst s.cfg (burst.map CapPulse.pulse) = .frame v n →
      (n ≠ s.pending.len.bits ∨ v ≠ s.pending.data.toNat) →
      ∃ reason, (resolve burst s).evq = s.evq ++ [.collisionDetected reason])
    ∧ (∀ len v, (resolve burst s).evq = s.evq ++ [.txCompleted len v] →
      decodeBurst s.cfg (burst.map CapPulse.pulse) = .frame s.pending.data.toNat s.pending.len.bits
        ∧ len = s.pending.len ∧ v = s.pending.data)

/-- R78 to R80: the fields of every event's word. -/
def Obligations.EventWordFields : Prop :=
  (∀ len v,
    let dirLen : BitVec 5 := match len with | .b8 => 0b00100#5 | .b16 => 0b00001#5 | .b24 => 0b00010#5
    eventWord (.frameReceived len v) = 1#3 ++ (dirLen ++ v) ∧ eventWord (.txCompleted len v) = 2#3 ++ (dirLen ++ v))
  ∧ (∀ e,
    let code : BitVec 5 := match e with
      | .badDuration => 1#5 | .noStart => 2#5 | .badSymbol => 3#5 | .noStop => 4#5 | .trailing => 5#5
    eventWord (.collisionDetected (.framing e)) = 3#3 ++ (code ++ 0#24)
      ∧ eventWord (.frameError (.framing e)) = 4#3 ++ (code ++ 0#24))
  ∧ eventWord (.collisionDetected .emptyEcho) = 0x67000000#32
  ∧ eventWord (.collisionDetected .echoTimeout) = 0x6A000000#32
  ∧ (∀ n, eventWord (.collisionDetected (.lenMismatch n)) = 0x68000000#32 ||| n.zeroExtend 32)
  ∧ (∀ v, eventWord (.collisionDetected (.dataMismatch v)) = 0x69000000#32 ||| v.zeroExtend 32)
  ∧ (∀ n, eventWord (.frameError (.nonstandardLength n)) = 0x86000000#32 ||| n.zeroExtend 32)
  ∧ eventWord (.busFailure true) = 0xA1000000#32 ∧ eventWord (.busFailure false) = 0xA0000000#32

/-! ## The tick step -/

/-- R151: what a tick step drives, from the sequencer as the last step left it. -/
def Obligations.DriveByRule : Prop :=
  ∀ (l : Level) (s : State), (tickStep l s).drvActive = true ↔
    (∃ r, s.txseq = .brk r)
    ∨ ∃ d n k, s.txseq = .send d n k
      ∧ (encodeFrame d.toNat n.bits)[k / s.cfg.teTicks.toNat]? = some .active

/-- R153, with R32, R35 and R164: the line monitor and the tick counter after a tick step, enabled or not. IDLE_CNT is the
number of idle ticks in a row (up to its saturation), and NOW counts tick steps. No phase of R150 writes a
configuration register. That rsp_status and rsp_data hold the last response over a tick step is the model's choice
(log 3, DESIGN CHOICE). -/
def Obligations.MonitorAndClockByRule : Prop :=
  (∀ (l : Level) (s : State),
    (tickStep l s).line = l
    ∧ (tickStep l s).lastEdge = (if l ≠ s.line then s.now else s.lastEdge)
    ∧ (l = .active → (tickStep l s).idleCnt = 0)
    ∧ (l = .idle → (tickStep l s).idleCnt.toNat = min (s.idleCnt.toNat + 1) (2 ^ 24 - 1))
    ∧ (tickStep l s).cfg = s.cfg ∧ (tickStep l s).rspStatus = s.rspStatus ∧ (tickStep l s).rspData = s.rspData)
  ∧ (∀ (k : Nat) (s : State),
    (runLevels (.active :: List.replicate k .idle) s).idleCnt.toNat = min k (2 ^ 24 - 1))
  ∧ ∀ (sense : List Level) (s : State),
    (runLevels sense s).now.toNat = (s.now.toNat + sense.length) % 2 ^ 32

/-- R154 to R158: the capture unit's phase at one tick; and, with R150, the capture unit after a whole tick in which no
break is driven, with the event queue that a burst's end leaves (R130), whether an outcome is pending or not. -/
def Obligations.CaptureByRule : Prop :=
  (∀ (l : Level) (s : State),
    let push := fun (p : List CapPulse) (x : CapPulse) => if p.length < 80 then p ++ [x] else p
    (s.cap = .off → capturePhase l s = s)
    ∧ (s.cap = .wait → capturePhase l s = if l = .active then { s with cap := .run [] .active 1 } else s)
    ∧ ∀ p lv n, s.cap = .run p lv n → ∀ p' n',
        (l = lv → p' = p ∧ n'.toNat = min (n.toNat + 1) (2 ^ 24 - 1)) →
        (l ≠ lv → p' = push p ⟨lv, n⟩ ∧ n' = 1) →
        ((l = .idle ∧ s.cfg.longIdleTicks.toNat ≤ n'.toNat)
            ∨ (l = .active ∧ s.cfg.busFailTicks.toNat ≤ n'.toNat) →
          capturePhase l s = resolve (push p' ⟨l, n'⟩) { s with cap := .wait })
        ∧ ((l = .idle → n'.toNat < s.cfg.longIdleTicks.toNat) →
            (l = .active → n'.toNat < s.cfg.busFailTicks.toNat) →
          capturePhase l s = { s with cap := .run p' l n' }))
  ∧ ∀ (l : Level) (s : State), (∀ r, s.txseq ≠ .brk r) →
    let push := fun (p : List CapPulse) (x : CapPulse) => if p.length < 80 then p ++ [x] else p
    (s.cap = .off → (tickStep l s).cap = .off)
    ∧ (s.cap = .wait → (tickStep l s).cap = if l = .active then .run [] .active 1 else .wait)
    ∧ ∀ p lv n, s.cap = .run p lv n → ∀ p' n',
        (l = lv → p' = p ∧ n'.toNat = min (n.toNat + 1) (2 ^ 24 - 1)) →
        (l ≠ lv → p' = push p ⟨lv, n⟩ ∧ n' = 1) →
        ((l = .idle ∧ s.cfg.longIdleTicks.toNat ≤ n'.toNat)
            ∨ (l = .active ∧ s.cfg.busFailTicks.toNat ≤ n'.toNat) →
          (tickStep l s).cap = .wait
            ∧ (tickStep l s).evq = (resolve (push p' ⟨l, n'⟩) s).evq
            ∧ (tickStep l s).evqOvf = (resolve (push p' ⟨l, n'⟩) s).evqOvf
            ∧ (tickStep l s).lastKind = (resolve (push p' ⟨l, n'⟩) s).lastKind)
        ∧ ((l = .idle → n'.toNat < s.cfg.longIdleTicks.toNat) →
            (l = .active → n'.toNat < s.cfg.busFailTicks.toNat) →
          (tickStep l s).cap = .run p' l n')

/-- R139, R159: the echo timer's phase fires exactly when PV = 1 and (NOW - PT) mod 2^32 has reached
ECHO_TIMEOUT_TICKS, emits COLLISION_DETECTED with reason ECHO_TIMEOUT, clears PV and forgets the kind; TXSEQ is not
changed. In a whole tick the capture comes first: a burst that ends at the tick the timer runs out is resolved against
the descriptor and the timeout does not fire (R159; in R235 the spec's own inference); only where no burst ends does the
timeout fire. -/
def Obligations.EchoTimerByRule : Prop :=
  (∀ s : State,
    (s.pending.valid = true →
      s.cfg.echoTimeoutTicks.toNat ≤ (s.now.toNat + 2 ^ 32 - s.pending.start.toNat) % 2 ^ 32 →
      ∃ p : Pending, p.valid = false ∧ echoPhase s =
        { emit (.collisionDetected .echoTimeout) s with pending := p, lastKind := .unknown })
    ∧ (s.pending.valid = false
        ∨ (s.now.toNat + 2 ^ 32 - s.pending.start.toNat) % 2 ^ 32 < s.cfg.echoTimeoutTicks.toNat →
      echoPhase s = s))
  ∧ ∀ (l : Level) (s : State), s.pending.valid = true →
    let limit := match l with | .idle => s.cfg.longIdleTicks.toNat | .active => s.cfg.busFailTicks.toNat
    let push := fun (p : List CapPulse) (x : CapPulse) => if p.length < 80 then p ++ [x] else p
    let expired := s.cfg.echoTimeoutTicks.toNat ≤ (s.now.toNat + 2 ^ 32 - s.pending.start.toNat) % 2 ^ 32
    let burstEnds := fun burst : List CapPulse => ∃ p lv n, s.cap = .run p lv n ∧ ∃ n' : Reg24,
      limit ≤ n'.toNat
        ∧ ((l = lv ∧ n'.toNat = min (n.toNat + 1) (2 ^ 24 - 1) ∧ burst = push p ⟨l, n'⟩)
          ∨ (l ≠ lv ∧ n' = 1 ∧ burst = push (push p ⟨lv, n⟩) ⟨l, n'⟩))
    (∀ burst, burstEnds burst →
      (tickStep l s).evq = (resolve burst s).evq ∧ (tickStep l s).evqOvf = (resolve burst s).evqOvf
        ∧ (s.evq.length < 16 →
          ∃ ev, (tickStep l s).evq = s.evq ++ [ev] ∧ ev ≠ .collisionDetected .echoTimeout))
    ∧ ((∀ burst, ¬ burstEnds burst) → expired →
      (s.evq.length < 16 → (tickStep l s).evq = s.evq ++ [.collisionDetected .echoTimeout])
      ∧ (16 ≤ s.evq.length → (tickStep l s).evq = s.evq ∧ (tickStep l s).evqOvf = true))
    ∧ ((∀ burst, ¬ burstEnds burst) → ¬ expired →
      (tickStep l s).evq = s.evq ∧ (tickStep l s).evqOvf = s.evqOvf ∧ (tickStep l s).pending = s.pending)

/-- R160, R161: one tick of the sequencer. -/
def Obligations.SequencerByRule : Prop :=
  ∀ s : State,
    (∀ d n k, s.txseq = .send d n k →
      (k + 1 = (2 * n.bits + 4) * s.cfg.teTicks.toNat → sequencerPhase s = { s with txseq := .idle })
      ∧ (k + 1 ≠ (2 * n.bits + 4) * s.cfg.teTicks.toNat → sequencerPhase s = { s with txseq := .send d n (k + 1) }))
    ∧ (s.txseq = .brk 1 → sequencerPhase s = { s with txseq := .idle, cap := .wait, lastKind := .unknown })
    ∧ (∀ r, s.txseq = .brk (r + 2) → sequencerPhase s = { s with txseq := .brk (r + 1) })
    ∧ (s.txseq = .idle → sequencerPhase s = s)

/-- R162, R163: the transmit start at the end of a tick. -/
def Obligations.TxStartByRule : Prop :=
  ∀ s : State,
    (∀ r rest, s.txq = r :: rest → s.en = true → s.txseq = .idle → s.pending.valid = false → s.cap = .wait →
      s.line = .idle →
      (if s.lastKind = .fwd then s.cfg.gapFwdTicks.toNat else s.cfg.gapBwdTicks.toNat) ≤ s.idleCnt.toNat →
      startPhase s = { s with
        txq := rest, txseq := .send r.data r.len 0, pending := ⟨true, r.data, r.len, s.now + 1⟩ })
    ∧ (s.txq = [] ∨ s.en = false ∨ s.txseq ≠ .idle ∨ s.pending.valid = true ∨ s.cap ≠ .wait ∨ s.line = .active
        ∨ s.idleCnt.toNat < (if s.lastKind = .fwd then s.cfg.gapFwdTicks.toNat else s.cfg.gapBwdTicks.toNat) →
      startPhase s = s)

/-- R61, R150, R162, R163: a tick step takes a request from TXQ only with EN = 1, the line idle for the settle time of
the last activity's kind and no burst being captured, and then the frame is the oldest request's, driven from the next
tick. Conversely a tick does start the oldest request when EN = 1, the line is idle and its phases 1 to 6 leave the
sequencer idle, PV = 0, the capture unit waiting and the settle time over. So an enabled block that waits with a request
on a line that stays idle starts it at the tick that completes the settle time, and not before. -/
def Obligations.TransmitOnlyAfterSettleTime : Prop :=
  (∀ (l : Level) (s : State), (tickStep l s).txq ≠ s.txq →
    s.en = true ∧ l = .idle ∧ (tickStep l s).cap = .wait
      ∧ (if (tickStep l s).lastKind = .fwd then s.cfg.gapFwdTicks.toNat else s.cfg.gapBwdTicks.toNat)
          ≤ (tickStep l s).idleCnt.toNat
      ∧ ∃ r, s.txq = r :: (tickStep l s).txq ∧ (tickStep l s).txseq = .send r.data r.len 0
        ∧ (tickStep l s).pending = ⟨true, r.data, r.len, (tickStep l s).now⟩)
  ∧ (∀ (l : Level) (s : State) (r : TxReq) (rest : List TxReq), s.en = true → s.txq = r :: rest → l = .idle →
    let u := sequencerPhase (echoPhase (capturePhase l (monitorPhase l (drivePhase s))))
    u.txseq = .idle → u.pending.valid = false → u.cap = .wait →
    (if u.lastKind = .fwd then s.cfg.gapFwdTicks.toNat else s.cfg.gapBwdTicks.toNat) ≤ u.idleCnt.toNat →
    (tickStep l s).txq = rest ∧ (tickStep l s).txseq = .send r.data r.len 0
      ∧ (tickStep l s).pending = ⟨true, r.data, r.len, s.now + 1⟩)
  ∧ ∀ (s : State) (r : TxReq) (rest : List TxReq), s.en = true → s.txq = r :: rest → s.txseq = .idle →
    s.pending.valid = false → s.cap = .wait →
    let gap := if s.lastKind = .fwd then s.cfg.gapFwdTicks.toNat else s.cfg.gapBwdTicks.toNat
    let wait := max 1 (gap - s.idleCnt.toNat)
    (∀ k < wait, (runLevels (List.replicate k .idle) s).txq = s.txq
      ∧ (runLevels (List.replicate k .idle) s).txseq = .idle)
    ∧ (runLevels (List.replicate wait .idle) s).txq = rest
    ∧ (runLevels (List.replicate wait .idle) s).txseq = .send r.data r.len 0
    ∧ (runLevels (List.replicate wait .idle) s).pending = ⟨true, r.data, r.len, s.now + BitVec.ofNat 32 wait⟩

/-- R165: `emit` queues an event last while there is room, else drops it and sets EVQ_OVF. That a tick step emits at most
one event is R166, which the spec marks as its own inference. -/
def Obligations.OneEventPerTick : Prop :=
  (∀ (ev : Event) (s : State),
    (s.evq.length < 16 → emit ev s = { s with evq := s.evq ++ [ev] })
    ∧ (16 ≤ s.evq.length → emit ev s = { s with evqOvf := true }))
  ∧ ∀ (l : Level) (s : State),
    ((tickStep l s).evq = s.evq ∧ (tickStep l s).evqOvf = s.evqOvf)
    ∨ (s.evq.length < 16 ∧ (tickStep l s).evqOvf = s.evqOvf ∧ ∃ ev, (tickStep l s).evq = s.evq ++ [ev])
    ∨ (16 ≤ s.evq.length ∧ (tickStep l s).evqOvf = true ∧ (tickStep l s).evq = s.evq)

/-- While an outcome is pending, a tick step never reports a received frame or a frame error: R137, which the spec marks as
its own inference ("derived: from rules R130 to R134"). -/
def Obligations.OwnEchoNeverReceived : Prop :=
  ∀ (l : Level) (s : State) (ev : Event), s.pending.valid = true → (tickStep l s).evq = s.evq ++ [ev] →
    (∃ len v, ev = .txCompleted len v) ∨ (∃ r, ev = .collisionDetected r) ∨ ev = .busFailure true

/-- A descriptor is given up in a tick step only with exactly one outcome event, queued unless EVQ is full: R140, which the
spec marks as its own inference. -/
def Obligations.PendingEndsWithOneOutcome : Prop :=
  ∀ (l : Level) (s : State), s.pending.valid = true → (tickStep l s).pending ≠ s.pending →
    (s.evq.length < 16 → ∃ ev, (tickStep l s).evq = s.evq ++ [ev]
      ∧ ((∃ len v, ev = .txCompleted len v) ∨ (∃ r, ev = .collisionDetected r) ∨ ev = .busFailure true))
    ∧ (16 ≤ s.evq.length → (tickStep l s).evq = s.evq ∧ (tickStep l s).evqOvf = true)

/-- R36, R136, R161: LAST_KIND becomes FWD or BWD in a tick step only with the event of a valid frame of that kind. -/
def Obligations.KindKnownOnlyFromValidFrame : Prop :=
  ∀ (l : Level) (s : State), s.evq.length < 16 → (tickStep l s).lastKind ≠ s.lastKind →
    (tickStep l s).lastKind = .unknown
    ∨ ∃ len v, ((tickStep l s).evq = s.evq ++ [.txCompleted len v]
        ∨ (tickStep l s).evq = s.evq ++ [.frameReceived len v])
      ∧ (tickStep l s).lastKind = (if len = .b8 then .bwd else .fwd)

/-- R150, R208, R241: a disabled block drives nothing, records nothing and emits nothing; only the line monitor and
the tick counter move.
That the response ports hold the last response over the tick is the model's choice (log 3, DESIGN CHOICE). -/
def Obligations.DisabledBlockIsQuiet : Prop :=
  ∀ (l : Level) (s : State), QuietWhenDisabled s → s.en = false →
    (tickStep l s).drvActive = false
    ∧ tickStep l s = { s with
        drvActive := false, line := (tickStep l s).line, lastEdge := (tickStep l s).lastEdge,
        idleCnt := (tickStep l s).idleCnt, now := (tickStep l s).now }

/-- R233: irq is up exactly while IRQ_EN = 1 and an event is queued; once up, it is taken down only by EVPOP, EVFLUSH,
a CTRL write or reset, never by a tick step. -/
def Obligations.IrqClearedOnlyByHost : Prop :=
  ∀ s : State, (s.irq = true ↔ s.cfg.ctrl.getLsbD 1 = true ∧ 1 ≤ s.evq.length) ∧ (s.irq = true →
    (∀ l, (tickStep l s).irq = true)
    ∧ ∀ i t, exec i s = .next t → t.irq = false →
        (i = .evpop ∧ s.evq.length = 1) ∨ i = .evflush ∨ ∃ v, i = .cfgw 8 v ∧ v.getLsbD 1 = false)

/-! ## Runs -/

/-- R161, R196: from a break with R ticks still to drive, each of the next R ticks drives the line, whatever is
sensed; nothing is captured or reported meanwhile; at the end of the last one the capture unit is armed again and
LAST_KIND is unknown. -/
def Obligations.BreakDrivesExactly : Prop :=
  ∀ (r : Nat) (s : State) (sense : List Level), s.txseq = .brk r → s.cap = .off → s.pending.valid = false →
    sense ≠ [] → sense.length ≤ r →
    (runLevels sense s).drvActive = true
    ∧ (runLevels sense s).evq = s.evq ∧ (runLevels sense s).evqOvf = s.evqOvf
    ∧ (sense.length < r → (runLevels sense s).txseq = .brk (r - sense.length) ∧ (runLevels sense s).cap = .off)
    ∧ (sense.length = r → (runLevels sense s).breakActive = false ∧ (runLevels sense s).cap = .wait
        ∧ (runLevels sense s).lastKind = .unknown)

/-- A line held active from an armed capture unit, nothing pending, is reported by one BUS_FAILURE every BUSFAIL_TICKS
ticks: the last sentence of R157, which the spec marks as its own inference. -/
def Obligations.StuckLineReportedPeriodically : Prop :=
  ∀ (s : State) (m : Nat), Invariant s → s.en = true → s.cap = .wait → s.pending.valid = false →
    s.evq.length + m ≤ 16 →
    (runLevels (List.replicate (m * s.cfg.busFailTicks.toNat) .active) s).evq
        = s.evq ++ List.replicate m (.busFailure false)
    ∧ (runLevels (List.replicate (m * s.cfg.busFailTicks.toNat) .active) s).cap = .wait

/-- Whatever is sensed, an outcome that is pending is reported no later than ECHO_TIMEOUT_TICKS ticks after PT: nothing
happens to the event queue or the descriptor up to some tick within that time, and that tick gives the descriptor up
with one outcome event, queued last unless EVQ is full. This is the second sentence of R242, which the spec marks as its
own inference. -/
def Obligations.OutcomeWithinEchoTimeout : Prop :=
  ∀ (s : State) (sense : List Level), Invariant s → s.pending.valid = true →
    sense.length = s.cfg.echoTimeoutTicks.toNat + 1 - (s.now - s.pending.start).toNat →
    ∃ k < sense.length,
      (∀ j ≤ k, (runLevels (sense.take j) s).pending = s.pending ∧ (runLevels (sense.take j) s).evq = s.evq)
      ∧ (runLevels (sense.take (k + 1)) s).pending ≠ s.pending
      ∧ (s.evq.length < 16 → ∃ ev, (runLevels (sense.take (k + 1)) s).evq = s.evq ++ [ev]
        ∧ ((∃ len v, ev = .txCompleted len v) ∨ (∃ r, ev = .collisionDetected r) ∨ ev = .busFailure true))
      ∧ (16 ≤ s.evq.length → (runLevels (sense.take (k + 1)) s).evq = s.evq
        ∧ (runLevels (sense.take (k + 1)) s).evqOvf = true)

/-- With no other unit driving and no loop delay, a frame started at the last tick drives Encode(D, N) over the next
(2N + 4) x TE_TICKS ticks; TX_COMPLETED is emitted LONG_IDLE_TICKS ticks after the last active one and no event before;
LAST_KIND is then the frame's kind: R167, which the spec marks as its own inference. -/
def Obligations.UndisturbedTransmission : Prop :=
  ∀ (s : State) (d : Reg24) (len : FrameLen), Invariant s → s.en = true → s.env.loopDelay = 0 →
    s.txseq = .send d len 0 → s.pending.valid = true → s.cap = .wait → s.evq.length < 16 →
    let te := s.cfg.teTicks.toNat
    let lastActive := if d.getLsbD 0 then (2 * len.bits + 1) * te else (2 * len.bits + 2) * te
    let done := lastActive + s.cfg.longIdleTicks.toNat
    (∀ k, k < (2 * len.bits + 4) * te →
      (runAlone (k + 1) s).drvActive = ((encodeFrame d.toNat len.bits)[k / te]? == some .active))
    ∧ (∀ k, k < done → (runAlone k s).evq = s.evq)
    ∧ (runAlone done s).evq = s.evq ++ [.txCompleted len d]
    ∧ (runAlone done s).lastKind = (if len = .b8 then .bwd else .fwd)

/-! ## The invariant -/

/-- The state after reset (R261) meets the invariant of Safety.lean, and its timing the joint constraints (R206, last
sentence). The invariant's form is the model's choice (logs 5, 11). -/
def Obligations.InvariantAtReset : Prop :=
  Invariant State.reset ∧ jointOk State.reset.cfg = true

/-- Every step of the machine, on any input, keeps the invariant of Safety.lean (R22, R37 to R42, R208). The invariant's
form is the model's choice (logs 5, 11). -/
def Obligations.InvariantKeptByStep : Prop :=
  ∀ s t : State, Invariant s → step s = .next t → Invariant t
end

