-- ==== Sys2Proof/Laws/State.lean ====
section
/-! SUPPORT. Laws/State.lean: what each named update of the state leaves in each field. -/

namespace Sys2Proof.Machine

/-! ### respond -/

@[simp] theorem respond_cfg (st : Status) (d : Word) (s : State) : (respond st d s).cfg = s.cfg := rfl
@[simp] theorem respond_now (st : Status) (d : Word) (s : State) : (respond st d s).now = s.now := rfl
@[simp] theorem respond_line (st : Status) (d : Word) (s : State) : (respond st d s).line = s.line := rfl
@[simp] theorem respond_lastEdge (st : Status) (d : Word) (s : State) : (respond st d s).lastEdge = s.lastEdge := rfl
@[simp] theorem respond_idleCnt (st : Status) (d : Word) (s : State) : (respond st d s).idleCnt = s.idleCnt := rfl
@[simp] theorem respond_lastKind (st : Status) (d : Word) (s : State) : (respond st d s).lastKind = s.lastKind := rfl
@[simp] theorem respond_cap (st : Status) (d : Word) (s : State) : (respond st d s).cap = s.cap := rfl
@[simp] theorem respond_txseq (st : Status) (d : Word) (s : State) : (respond st d s).txseq = s.txseq := rfl
@[simp] theorem respond_pending (st : Status) (d : Word) (s : State) : (respond st d s).pending = s.pending := rfl
@[simp] theorem respond_txq (st : Status) (d : Word) (s : State) : (respond st d s).txq = s.txq := rfl
@[simp] theorem respond_evq (st : Status) (d : Word) (s : State) : (respond st d s).evq = s.evq := rfl
@[simp] theorem respond_evqOvf (st : Status) (d : Word) (s : State) : (respond st d s).evqOvf = s.evqOvf := rfl
@[simp] theorem respond_drvActive (st : Status) (d : Word) (s : State) : (respond st d s).drvActive = s.drvActive := rfl
@[simp] theorem respond_rspStatus (st : Status) (d : Word) (s : State) : (respond st d s).rspStatus = st := rfl
@[simp] theorem respond_rspData (st : Status) (d : Word) (s : State) : (respond st d s).rspData = d := rfl
@[simp] theorem respond_env (st : Status) (d : Word) (s : State) : (respond st d s).env = s.env := rfl

/-! ### raise -/

@[simp] theorem raise_cfg (st : Status) (s : State) : (raise st s).cfg = s.cfg := rfl
@[simp] theorem raise_now (st : Status) (s : State) : (raise st s).now = s.now := rfl
@[simp] theorem raise_line (st : Status) (s : State) : (raise st s).line = s.line := rfl
@[simp] theorem raise_lastEdge (st : Status) (s : State) : (raise st s).lastEdge = s.lastEdge := rfl
@[simp] theorem raise_idleCnt (st : Status) (s : State) : (raise st s).idleCnt = s.idleCnt := rfl
@[simp] theorem raise_lastKind (st : Status) (s : State) : (raise st s).lastKind = s.lastKind := rfl
@[simp] theorem raise_cap (st : Status) (s : State) : (raise st s).cap = s.cap := rfl
@[simp] theorem raise_txseq (st : Status) (s : State) : (raise st s).txseq = s.txseq := rfl
@[simp] theorem raise_pending (st : Status) (s : State) : (raise st s).pending = s.pending := rfl
@[simp] theorem raise_txq (st : Status) (s : State) : (raise st s).txq = s.txq := rfl
@[simp] theorem raise_evq (st : Status) (s : State) : (raise st s).evq = s.evq := rfl
@[simp] theorem raise_evqOvf (st : Status) (s : State) : (raise st s).evqOvf = s.evqOvf := rfl
@[simp] theorem raise_drvActive (st : Status) (s : State) : (raise st s).drvActive = s.drvActive := rfl
@[simp] theorem raise_rspStatus (st : Status) (s : State) : (raise st s).rspStatus = st := rfl
@[simp] theorem raise_rspData (st : Status) (s : State) : (raise st s).rspData = 0 := rfl
@[simp] theorem raise_env (st : Status) (s : State) : (raise st s).env = s.env := rfl

/-! ### closePending -/

@[simp] theorem closePending_cfg (s : State) : (closePending s).cfg = s.cfg := rfl
@[simp] theorem closePending_now (s : State) : (closePending s).now = s.now := rfl
@[simp] theorem closePending_line (s : State) : (closePending s).line = s.line := rfl
@[simp] theorem closePending_lastEdge (s : State) : (closePending s).lastEdge = s.lastEdge := rfl
@[simp] theorem closePending_idleCnt (s : State) : (closePending s).idleCnt = s.idleCnt := rfl
@[simp] theorem closePending_lastKind (s : State) : (closePending s).lastKind = s.lastKind := rfl
@[simp] theorem closePending_cap (s : State) : (closePending s).cap = s.cap := rfl
@[simp] theorem closePending_txseq (s : State) : (closePending s).txseq = s.txseq := rfl
@[simp] theorem closePending_pending (s : State) : (closePending s).pending = { s.pending with valid := false } := rfl
@[simp] theorem closePending_txq (s : State) : (closePending s).txq = s.txq := rfl
@[simp] theorem closePending_evq (s : State) : (closePending s).evq = s.evq := rfl
@[simp] theorem closePending_evqOvf (s : State) : (closePending s).evqOvf = s.evqOvf := rfl
@[simp] theorem closePending_drvActive (s : State) : (closePending s).drvActive = s.drvActive := rfl
@[simp] theorem closePending_rspStatus (s : State) : (closePending s).rspStatus = s.rspStatus := rfl
@[simp] theorem closePending_rspData (s : State) : (closePending s).rspData = s.rspData := rfl
@[simp] theorem closePending_env (s : State) : (closePending s).env = s.env := rfl

/-! ### setKind -/

@[simp] theorem setKind_cfg (k : Kind) (s : State) : (setKind k s).cfg = s.cfg := rfl
@[simp] theorem setKind_now (k : Kind) (s : State) : (setKind k s).now = s.now := rfl
@[simp] theorem setKind_line (k : Kind) (s : State) : (setKind k s).line = s.line := rfl
@[simp] theorem setKind_lastEdge (k : Kind) (s : State) : (setKind k s).lastEdge = s.lastEdge := rfl
@[simp] theorem setKind_idleCnt (k : Kind) (s : State) : (setKind k s).idleCnt = s.idleCnt := rfl
@[simp] theorem setKind_lastKind (k : Kind) (s : State) : (setKind k s).lastKind = k := rfl
@[simp] theorem setKind_cap (k : Kind) (s : State) : (setKind k s).cap = s.cap := rfl
@[simp] theorem setKind_txseq (k : Kind) (s : State) : (setKind k s).txseq = s.txseq := rfl
@[simp] theorem setKind_pending (k : Kind) (s : State) : (setKind k s).pending = s.pending := rfl
@[simp] theorem setKind_txq (k : Kind) (s : State) : (setKind k s).txq = s.txq := rfl
@[simp] theorem setKind_evq (k : Kind) (s : State) : (setKind k s).evq = s.evq := rfl
@[simp] theorem setKind_evqOvf (k : Kind) (s : State) : (setKind k s).evqOvf = s.evqOvf := rfl
@[simp] theorem setKind_drvActive (k : Kind) (s : State) : (setKind k s).drvActive = s.drvActive := rfl
@[simp] theorem setKind_rspStatus (k : Kind) (s : State) : (setKind k s).rspStatus = s.rspStatus := rfl
@[simp] theorem setKind_rspData (k : Kind) (s : State) : (setKind k s).rspData = s.rspData := rfl
@[simp] theorem setKind_env (k : Kind) (s : State) : (setKind k s).env = s.env := rfl

/-! ### enableBlock -/

@[simp] theorem enableBlock_cfg (s : State) : (enableBlock s).cfg = s.cfg := rfl
@[simp] theorem enableBlock_now (s : State) : (enableBlock s).now = s.now := rfl
@[simp] theorem enableBlock_line (s : State) : (enableBlock s).line = s.line := rfl
@[simp] theorem enableBlock_lastEdge (s : State) : (enableBlock s).lastEdge = s.lastEdge := rfl
@[simp] theorem enableBlock_idleCnt (s : State) : (enableBlock s).idleCnt = s.idleCnt := rfl
@[simp] theorem enableBlock_lastKind (s : State) : (enableBlock s).lastKind = .unknown := rfl
@[simp] theorem enableBlock_cap (s : State) : (enableBlock s).cap = .wait := rfl
@[simp] theorem enableBlock_txseq (s : State) : (enableBlock s).txseq = s.txseq := rfl
@[simp] theorem enableBlock_pending (s : State) : (enableBlock s).pending = s.pending := rfl
@[simp] theorem enableBlock_txq (s : State) : (enableBlock s).txq = s.txq := rfl
@[simp] theorem enableBlock_evq (s : State) : (enableBlock s).evq = s.evq := rfl
@[simp] theorem enableBlock_evqOvf (s : State) : (enableBlock s).evqOvf = s.evqOvf := rfl
@[simp] theorem enableBlock_drvActive (s : State) : (enableBlock s).drvActive = s.drvActive := rfl
@[simp] theorem enableBlock_rspStatus (s : State) : (enableBlock s).rspStatus = s.rspStatus := rfl
@[simp] theorem enableBlock_rspData (s : State) : (enableBlock s).rspData = s.rspData := rfl
@[simp] theorem enableBlock_env (s : State) : (enableBlock s).env = s.env := rfl

/-! ### disableBlock -/

@[simp] theorem disableBlock_cfg (s : State) : (disableBlock s).cfg = s.cfg := rfl
@[simp] theorem disableBlock_now (s : State) : (disableBlock s).now = s.now := rfl
@[simp] theorem disableBlock_line (s : State) : (disableBlock s).line = s.line := rfl
@[simp] theorem disableBlock_lastEdge (s : State) : (disableBlock s).lastEdge = s.lastEdge := rfl
@[simp] theorem disableBlock_idleCnt (s : State) : (disableBlock s).idleCnt = s.idleCnt := rfl
@[simp] theorem disableBlock_lastKind (s : State) : (disableBlock s).lastKind = s.lastKind := rfl
@[simp] theorem disableBlock_cap (s : State) : (disableBlock s).cap = .off := rfl
@[simp] theorem disableBlock_txseq (s : State) : (disableBlock s).txseq = .idle := rfl
@[simp] theorem disableBlock_pending (s : State) : (disableBlock s).pending = { s.pending with valid := false } := rfl
@[simp] theorem disableBlock_txq (s : State) : (disableBlock s).txq = [] := rfl
@[simp] theorem disableBlock_evq (s : State) : (disableBlock s).evq = s.evq := rfl
@[simp] theorem disableBlock_evqOvf (s : State) : (disableBlock s).evqOvf = s.evqOvf := rfl
@[simp] theorem disableBlock_drvActive (s : State) : (disableBlock s).drvActive = s.drvActive := rfl
@[simp] theorem disableBlock_rspStatus (s : State) : (disableBlock s).rspStatus = s.rspStatus := rfl
@[simp] theorem disableBlock_rspData (s : State) : (disableBlock s).rspData = s.rspData := rfl
@[simp] theorem disableBlock_env (s : State) : (disableBlock s).env = s.env := rfl

/-! ### drivePhase -/

@[simp] theorem drivePhase_cfg (s : State) : (drivePhase s).cfg = s.cfg := rfl
@[simp] theorem drivePhase_now (s : State) : (drivePhase s).now = s.now := rfl
@[simp] theorem drivePhase_line (s : State) : (drivePhase s).line = s.line := rfl
@[simp] theorem drivePhase_lastEdge (s : State) : (drivePhase s).lastEdge = s.lastEdge := rfl
@[simp] theorem drivePhase_idleCnt (s : State) : (drivePhase s).idleCnt = s.idleCnt := rfl
@[simp] theorem drivePhase_lastKind (s : State) : (drivePhase s).lastKind = s.lastKind := rfl
@[simp] theorem drivePhase_cap (s : State) : (drivePhase s).cap = s.cap := rfl
@[simp] theorem drivePhase_txseq (s : State) : (drivePhase s).txseq = s.txseq := rfl
@[simp] theorem drivePhase_pending (s : State) : (drivePhase s).pending = s.pending := rfl
@[simp] theorem drivePhase_txq (s : State) : (drivePhase s).txq = s.txq := rfl
@[simp] theorem drivePhase_evq (s : State) : (drivePhase s).evq = s.evq := rfl
@[simp] theorem drivePhase_evqOvf (s : State) : (drivePhase s).evqOvf = s.evqOvf := rfl
@[simp] theorem drivePhase_drvActive (s : State) : (drivePhase s).drvActive = driveOut s := rfl
@[simp] theorem drivePhase_rspStatus (s : State) : (drivePhase s).rspStatus = s.rspStatus := rfl
@[simp] theorem drivePhase_rspData (s : State) : (drivePhase s).rspData = s.rspData := rfl
@[simp] theorem drivePhase_env (s : State) : (drivePhase s).env = s.env := rfl

/-! ### monitorPhase -/

@[simp] theorem monitorPhase_cfg (l : Level) (s : State) : (monitorPhase l s).cfg = s.cfg := rfl
@[simp] theorem monitorPhase_now (l : Level) (s : State) : (monitorPhase l s).now = s.now := rfl
@[simp] theorem monitorPhase_line (l : Level) (s : State) : (monitorPhase l s).line = l := rfl
@[simp] theorem monitorPhase_lastEdge (l : Level) (s : State) : (monitorPhase l s).lastEdge = if l = s.line then s.lastEdge else s.now := rfl
@[simp] theorem monitorPhase_idleCnt (l : Level) (s : State) : (monitorPhase l s).idleCnt = nextIdleCnt l s.idleCnt := rfl
@[simp] theorem monitorPhase_lastKind (l : Level) (s : State) : (monitorPhase l s).lastKind = s.lastKind := rfl
@[simp] theorem monitorPhase_cap (l : Level) (s : State) : (monitorPhase l s).cap = s.cap := rfl
@[simp] theorem monitorPhase_txseq (l : Level) (s : State) : (monitorPhase l s).txseq = s.txseq := rfl
@[simp] theorem monitorPhase_pending (l : Level) (s : State) : (monitorPhase l s).pending = s.pending := rfl
@[simp] theorem monitorPhase_txq (l : Level) (s : State) : (monitorPhase l s).txq = s.txq := rfl
@[simp] theorem monitorPhase_evq (l : Level) (s : State) : (monitorPhase l s).evq = s.evq := rfl
@[simp] theorem monitorPhase_evqOvf (l : Level) (s : State) : (monitorPhase l s).evqOvf = s.evqOvf := rfl
@[simp] theorem monitorPhase_drvActive (l : Level) (s : State) : (monitorPhase l s).drvActive = s.drvActive := rfl
@[simp] theorem monitorPhase_rspStatus (l : Level) (s : State) : (monitorPhase l s).rspStatus = s.rspStatus := rfl
@[simp] theorem monitorPhase_rspData (l : Level) (s : State) : (monitorPhase l s).rspData = s.rspData := rfl
@[simp] theorem monitorPhase_env (l : Level) (s : State) : (monitorPhase l s).env = s.env := rfl

/-! ### startRequest -/

@[simp] theorem startRequest_cfg (r : TxReq) (rest : List TxReq) (s : State) : (startRequest r rest s).cfg = s.cfg := rfl
@[simp] theorem startRequest_now (r : TxReq) (rest : List TxReq) (s : State) : (startRequest r rest s).now = s.now := rfl
@[simp] theorem startRequest_line (r : TxReq) (rest : List TxReq) (s : State) : (startRequest r rest s).line = s.line := rfl
@[simp] theorem startRequest_lastEdge (r : TxReq) (rest : List TxReq) (s : State) : (startRequest r rest s).lastEdge = s.lastEdge := rfl
@[simp] theorem startRequest_idleCnt (r : TxReq) (rest : List TxReq) (s : State) : (startRequest r rest s).idleCnt = s.idleCnt := rfl
@[simp] theorem startRequest_lastKind (r : TxReq) (rest : List TxReq) (s : State) : (startRequest r rest s).lastKind = s.lastKind := rfl
@[simp] theorem startRequest_cap (r : TxReq) (rest : List TxReq) (s : State) : (startRequest r rest s).cap = s.cap := rfl
@[simp] theorem startRequest_txseq (r : TxReq) (rest : List TxReq) (s : State) : (startRequest r rest s).txseq = .send r.data r.len 0 := rfl
@[simp] theorem startRequest_pending (r : TxReq) (rest : List TxReq) (s : State) : (startRequest r rest s).pending = ⟨true, r.data, r.len, s.now + 1⟩ := rfl
@[simp] theorem startRequest_txq (r : TxReq) (rest : List TxReq) (s : State) : (startRequest r rest s).txq = rest := rfl
@[simp] theorem startRequest_evq (r : TxReq) (rest : List TxReq) (s : State) : (startRequest r rest s).evq = s.evq := rfl
@[simp] theorem startRequest_evqOvf (r : TxReq) (rest : List TxReq) (s : State) : (startRequest r rest s).evqOvf = s.evqOvf := rfl
@[simp] theorem startRequest_drvActive (r : TxReq) (rest : List TxReq) (s : State) : (startRequest r rest s).drvActive = s.drvActive := rfl
@[simp] theorem startRequest_rspStatus (r : TxReq) (rest : List TxReq) (s : State) : (startRequest r rest s).rspStatus = s.rspStatus := rfl
@[simp] theorem startRequest_rspData (r : TxReq) (rest : List TxReq) (s : State) : (startRequest r rest s).rspData = s.rspData := rfl
@[simp] theorem startRequest_env (r : TxReq) (rest : List TxReq) (s : State) : (startRequest r rest s).env = s.env := rfl

/-! ### clockPhase -/

@[simp] theorem clockPhase_cfg (s : State) : (clockPhase s).cfg = s.cfg := rfl
@[simp] theorem clockPhase_now (s : State) : (clockPhase s).now = s.now + 1 := rfl
@[simp] theorem clockPhase_line (s : State) : (clockPhase s).line = s.line := rfl
@[simp] theorem clockPhase_lastEdge (s : State) : (clockPhase s).lastEdge = s.lastEdge := rfl
@[simp] theorem clockPhase_idleCnt (s : State) : (clockPhase s).idleCnt = s.idleCnt := rfl
@[simp] theorem clockPhase_lastKind (s : State) : (clockPhase s).lastKind = s.lastKind := rfl
@[simp] theorem clockPhase_cap (s : State) : (clockPhase s).cap = s.cap := rfl
@[simp] theorem clockPhase_txseq (s : State) : (clockPhase s).txseq = s.txseq := rfl
@[simp] theorem clockPhase_pending (s : State) : (clockPhase s).pending = s.pending := rfl
@[simp] theorem clockPhase_txq (s : State) : (clockPhase s).txq = s.txq := rfl
@[simp] theorem clockPhase_evq (s : State) : (clockPhase s).evq = s.evq := rfl
@[simp] theorem clockPhase_evqOvf (s : State) : (clockPhase s).evqOvf = s.evqOvf := rfl
@[simp] theorem clockPhase_drvActive (s : State) : (clockPhase s).drvActive = s.drvActive := rfl
@[simp] theorem clockPhase_rspStatus (s : State) : (clockPhase s).rspStatus = s.rspStatus := rfl
@[simp] theorem clockPhase_rspData (s : State) : (clockPhase s).rspData = s.rspData := rfl
@[simp] theorem clockPhase_env (s : State) : (clockPhase s).env = s.env := rfl

/-! ### envTick -/

@[simp] theorem envTick_cfg (drv : Bool) (s : State) : (envTick drv s).cfg = s.cfg := rfl
@[simp] theorem envTick_now (drv : Bool) (s : State) : (envTick drv s).now = s.now := rfl
@[simp] theorem envTick_line (drv : Bool) (s : State) : (envTick drv s).line = s.line := rfl
@[simp] theorem envTick_lastEdge (drv : Bool) (s : State) : (envTick drv s).lastEdge = s.lastEdge := rfl
@[simp] theorem envTick_idleCnt (drv : Bool) (s : State) : (envTick drv s).idleCnt = s.idleCnt := rfl
@[simp] theorem envTick_lastKind (drv : Bool) (s : State) : (envTick drv s).lastKind = s.lastKind := rfl
@[simp] theorem envTick_cap (drv : Bool) (s : State) : (envTick drv s).cap = s.cap := rfl
@[simp] theorem envTick_txseq (drv : Bool) (s : State) : (envTick drv s).txseq = s.txseq := rfl
@[simp] theorem envTick_pending (drv : Bool) (s : State) : (envTick drv s).pending = s.pending := rfl
@[simp] theorem envTick_txq (drv : Bool) (s : State) : (envTick drv s).txq = s.txq := rfl
@[simp] theorem envTick_evq (drv : Bool) (s : State) : (envTick drv s).evq = s.evq := rfl
@[simp] theorem envTick_evqOvf (drv : Bool) (s : State) : (envTick drv s).evqOvf = s.evqOvf := rfl
@[simp] theorem envTick_drvActive (drv : Bool) (s : State) : (envTick drv s).drvActive = s.drvActive := rfl
@[simp] theorem envTick_rspStatus (drv : Bool) (s : State) : (envTick drv s).rspStatus = s.rspStatus := rfl
@[simp] theorem envTick_rspData (drv : Bool) (s : State) : (envTick drv s).rspData = s.rspData := rfl
@[simp] theorem envTick_env (drv : Bool) (s : State) : (envTick drv s).env = recordDrive drv s.env := rfl

/-! ### startBreak -/

@[simp] theorem startBreak_cfg (s : State) : (startBreak s).cfg = s.cfg := rfl
@[simp] theorem startBreak_now (s : State) : (startBreak s).now = s.now := rfl
@[simp] theorem startBreak_line (s : State) : (startBreak s).line = s.line := rfl
@[simp] theorem startBreak_lastEdge (s : State) : (startBreak s).lastEdge = s.lastEdge := rfl
@[simp] theorem startBreak_idleCnt (s : State) : (startBreak s).idleCnt = s.idleCnt := rfl
@[simp] theorem startBreak_lastKind (s : State) : (startBreak s).lastKind = s.lastKind := rfl
@[simp] theorem startBreak_cap (s : State) : (startBreak s).cap = .off := rfl
@[simp] theorem startBreak_txseq (s : State) : (startBreak s).txseq = .brk s.cfg.breakTicks.toNat := rfl
@[simp] theorem startBreak_pending (s : State) : (startBreak s).pending = s.pending := rfl
@[simp] theorem startBreak_txq (s : State) : (startBreak s).txq = s.txq := rfl
@[simp] theorem startBreak_evq (s : State) : (startBreak s).evq = s.evq := rfl
@[simp] theorem startBreak_evqOvf (s : State) : (startBreak s).evqOvf = s.evqOvf := rfl
@[simp] theorem startBreak_drvActive (s : State) : (startBreak s).drvActive = s.drvActive := rfl
@[simp] theorem startBreak_rspStatus (s : State) : (startBreak s).rspStatus = .ok := rfl
@[simp] theorem startBreak_rspData (s : State) : (startBreak s).rspData = 0 := rfl
@[simp] theorem startBreak_env (s : State) : (startBreak s).env = s.env := rfl

/-! ### placeInput -/

@[simp] theorem placeInput_cfg (x : Input) (s : State) : (placeInput x s).cfg = s.cfg := rfl
@[simp] theorem placeInput_now (x : Input) (s : State) : (placeInput x s).now = s.now := rfl
@[simp] theorem placeInput_line (x : Input) (s : State) : (placeInput x s).line = s.line := rfl
@[simp] theorem placeInput_lastEdge (x : Input) (s : State) : (placeInput x s).lastEdge = s.lastEdge := rfl
@[simp] theorem placeInput_idleCnt (x : Input) (s : State) : (placeInput x s).idleCnt = s.idleCnt := rfl
@[simp] theorem placeInput_lastKind (x : Input) (s : State) : (placeInput x s).lastKind = s.lastKind := rfl
@[simp] theorem placeInput_cap (x : Input) (s : State) : (placeInput x s).cap = s.cap := rfl
@[simp] theorem placeInput_txseq (x : Input) (s : State) : (placeInput x s).txseq = s.txseq := rfl
@[simp] theorem placeInput_pending (x : Input) (s : State) : (placeInput x s).pending = s.pending := rfl
@[simp] theorem placeInput_txq (x : Input) (s : State) : (placeInput x s).txq = s.txq := rfl
@[simp] theorem placeInput_evq (x : Input) (s : State) : (placeInput x s).evq = s.evq := rfl
@[simp] theorem placeInput_evqOvf (x : Input) (s : State) : (placeInput x s).evqOvf = s.evqOvf := rfl
@[simp] theorem placeInput_drvActive (x : Input) (s : State) : (placeInput x s).drvActive = s.drvActive := rfl
@[simp] theorem placeInput_rspStatus (x : Input) (s : State) : (placeInput x s).rspStatus = s.rspStatus := rfl
@[simp] theorem placeInput_rspData (x : Input) (s : State) : (placeInput x s).rspData = s.rspData := rfl
@[simp] theorem placeInput_env (x : Input) (s : State) : (placeInput x s).env = { s.env with inputs := x :: s.env.inputs } := rfl

/-! ### emit -/

@[simp] theorem emit_cfg (ev : Event) (s : State) : (emit ev s).cfg = s.cfg := by
  unfold emit; split <;> rfl
@[simp] theorem emit_now (ev : Event) (s : State) : (emit ev s).now = s.now := by
  unfold emit; split <;> rfl
@[simp] theorem emit_line (ev : Event) (s : State) : (emit ev s).line = s.line := by
  unfold emit; split <;> rfl
@[simp] theorem emit_lastEdge (ev : Event) (s : State) : (emit ev s).lastEdge = s.lastEdge := by
  unfold emit; split <;> rfl
@[simp] theorem emit_idleCnt (ev : Event) (s : State) : (emit ev s).idleCnt = s.idleCnt := by
  unfold emit; split <;> rfl
@[simp] theorem emit_lastKind (ev : Event) (s : State) : (emit ev s).lastKind = s.lastKind := by
  unfold emit; split <;> rfl
@[simp] theorem emit_cap (ev : Event) (s : State) : (emit ev s).cap = s.cap := by
  unfold emit; split <;> rfl
@[simp] theorem emit_txseq (ev : Event) (s : State) : (emit ev s).txseq = s.txseq := by
  unfold emit; split <;> rfl
@[simp] theorem emit_pending (ev : Event) (s : State) : (emit ev s).pending = s.pending := by
  unfold emit; split <;> rfl
@[simp] theorem emit_txq (ev : Event) (s : State) : (emit ev s).txq = s.txq := by
  unfold emit; split <;> rfl
@[simp] theorem emit_drvActive (ev : Event) (s : State) : (emit ev s).drvActive = s.drvActive := by
  unfold emit; split <;> rfl
@[simp] theorem emit_rspStatus (ev : Event) (s : State) : (emit ev s).rspStatus = s.rspStatus := by
  unfold emit; split <;> rfl
@[simp] theorem emit_rspData (ev : Event) (s : State) : (emit ev s).rspData = s.rspData := by
  unfold emit; split <;> rfl
@[simp] theorem emit_env (ev : Event) (s : State) : (emit ev s).env = s.env := by
  unfold emit; split <;> rfl

/-! ### stopSending -/

@[simp] theorem stopSending_cfg (s : State) : (stopSending s).cfg = s.cfg := rfl
@[simp] theorem stopSending_now (s : State) : (stopSending s).now = s.now := rfl
@[simp] theorem stopSending_line (s : State) : (stopSending s).line = s.line := rfl
@[simp] theorem stopSending_lastEdge (s : State) : (stopSending s).lastEdge = s.lastEdge := rfl
@[simp] theorem stopSending_idleCnt (s : State) : (stopSending s).idleCnt = s.idleCnt := rfl
@[simp] theorem stopSending_lastKind (s : State) : (stopSending s).lastKind = s.lastKind := rfl
@[simp] theorem stopSending_cap (s : State) : (stopSending s).cap = s.cap := rfl
@[simp] theorem stopSending_txseq (s : State) : (stopSending s).txseq = s.txseq.stopSend := rfl
@[simp] theorem stopSending_pending (s : State) : (stopSending s).pending = s.pending := rfl
@[simp] theorem stopSending_txq (s : State) : (stopSending s).txq = s.txq := rfl
@[simp] theorem stopSending_evq (s : State) : (stopSending s).evq = s.evq := rfl
@[simp] theorem stopSending_evqOvf (s : State) : (stopSending s).evqOvf = s.evqOvf := rfl
@[simp] theorem stopSending_drvActive (s : State) : (stopSending s).drvActive = s.drvActive := rfl
@[simp] theorem stopSending_rspStatus (s : State) : (stopSending s).rspStatus = s.rspStatus := rfl
@[simp] theorem stopSending_rspData (s : State) : (stopSending s).rspData = s.rspData := rfl
@[simp] theorem stopSending_env (s : State) : (stopSending s).env = s.env := rfl

/-! ### clearOvf -/

@[simp] theorem clearOvf_cfg (m : Bool) (s : State) : (clearOvf m s).cfg = s.cfg := by
  unfold clearOvf; split <;> rfl
@[simp] theorem clearOvf_now (m : Bool) (s : State) : (clearOvf m s).now = s.now := by
  unfold clearOvf; split <;> rfl
@[simp] theorem clearOvf_line (m : Bool) (s : State) : (clearOvf m s).line = s.line := by
  unfold clearOvf; split <;> rfl
@[simp] theorem clearOvf_lastEdge (m : Bool) (s : State) : (clearOvf m s).lastEdge = s.lastEdge := by
  unfold clearOvf; split <;> rfl
@[simp] theorem clearOvf_idleCnt (m : Bool) (s : State) : (clearOvf m s).idleCnt = s.idleCnt := by
  unfold clearOvf; split <;> rfl
@[simp] theorem clearOvf_lastKind (m : Bool) (s : State) : (clearOvf m s).lastKind = s.lastKind := by
  unfold clearOvf; split <;> rfl
@[simp] theorem clearOvf_cap (m : Bool) (s : State) : (clearOvf m s).cap = s.cap := by
  unfold clearOvf; split <;> rfl
@[simp] theorem clearOvf_txseq (m : Bool) (s : State) : (clearOvf m s).txseq = s.txseq := by
  unfold clearOvf; split <;> rfl
@[simp] theorem clearOvf_pending (m : Bool) (s : State) : (clearOvf m s).pending = s.pending := by
  unfold clearOvf; split <;> rfl
@[simp] theorem clearOvf_txq (m : Bool) (s : State) : (clearOvf m s).txq = s.txq := by
  unfold clearOvf; split <;> rfl
@[simp] theorem clearOvf_evq (m : Bool) (s : State) : (clearOvf m s).evq = s.evq := by
  unfold clearOvf; split <;> rfl
@[simp] theorem clearOvf_drvActive (m : Bool) (s : State) : (clearOvf m s).drvActive = s.drvActive := by
  unfold clearOvf; split <;> rfl
@[simp] theorem clearOvf_rspStatus (m : Bool) (s : State) : (clearOvf m s).rspStatus = s.rspStatus := by
  unfold clearOvf; split <;> rfl
@[simp] theorem clearOvf_rspData (m : Bool) (s : State) : (clearOvf m s).rspData = s.rspData := by
  unfold clearOvf; split <;> rfl
@[simp] theorem clearOvf_env (m : Bool) (s : State) : (clearOvf m s).env = s.env := by
  unfold clearOvf; split <;> rfl

/-! ### takeInput -/

@[simp] theorem takeInput_cfg (s : State) : (takeInput s).cfg = s.cfg := by
  unfold takeInput; split <;> rfl
@[simp] theorem takeInput_now (s : State) : (takeInput s).now = s.now := by
  unfold takeInput; split <;> rfl
@[simp] theorem takeInput_line (s : State) : (takeInput s).line = s.line := by
  unfold takeInput; split <;> rfl
@[simp] theorem takeInput_lastEdge (s : State) : (takeInput s).lastEdge = s.lastEdge := by
  unfold takeInput; split <;> rfl
@[simp] theorem takeInput_idleCnt (s : State) : (takeInput s).idleCnt = s.idleCnt := by
  unfold takeInput; split <;> rfl
@[simp] theorem takeInput_lastKind (s : State) : (takeInput s).lastKind = s.lastKind := by
  unfold takeInput; split <;> rfl
@[simp] theorem takeInput_cap (s : State) : (takeInput s).cap = s.cap := by
  unfold takeInput; split <;> rfl
@[simp] theorem takeInput_txseq (s : State) : (takeInput s).txseq = s.txseq := by
  unfold takeInput; split <;> rfl
@[simp] theorem takeInput_pending (s : State) : (takeInput s).pending = s.pending := by
  unfold takeInput; split <;> rfl
@[simp] theorem takeInput_txq (s : State) : (takeInput s).txq = s.txq := by
  unfold takeInput; split <;> rfl
@[simp] theorem takeInput_evq (s : State) : (takeInput s).evq = s.evq := by
  unfold takeInput; split <;> rfl
@[simp] theorem takeInput_evqOvf (s : State) : (takeInput s).evqOvf = s.evqOvf := by
  unfold takeInput; split <;> rfl
@[simp] theorem takeInput_drvActive (s : State) : (takeInput s).drvActive = s.drvActive := by
  unfold takeInput; split <;> rfl
@[simp] theorem takeInput_rspStatus (s : State) : (takeInput s).rspStatus = s.rspStatus := by
  unfold takeInput; split <;> rfl
@[simp] theorem takeInput_rspData (s : State) : (takeInput s).rspData = s.rspData := by
  unfold takeInput; split <;> rfl

end Sys2Proof.Machine
end

