-- ==== Sys2Proof/Laws/Ops.lean ====
section
/-! SUPPORT. Laws/Ops.lean: for each shared operation, once, everything it can do. Later proofs cite these lemmas and
do not unfold the operations. -/

namespace Sys2Proof.Machine

/-! ### Numbers -/

theorem sat24_toNat (x : Nat) : (sat24 x).toNat = min x (2 ^ 24 - 1) := by
  unfold sat24
  rw [BitVec.toNat_ofNat, Nat.mod_eq_of_lt (by omega)]

theorem nextIdleCnt_toNat (l : Level) (c : Reg24) :
    (nextIdleCnt l c).toNat = match l with | .active => 0 | .idle => min (c.toNat + 1) (2 ^ 24 - 1) := by
  cases l <;> simp [nextIdleCnt, sat24_toNat]

theorem jointOk_iff (c : CfgFile) : jointOk c = true ↔
    2 * c.teTicks.toNat * (100 + c.tolPct.toNat) < 100 * c.longIdleTicks.toNat
      ∧ 2 * c.teTicks.toNat * (100 + c.tolPct.toNat) < 100 * c.busFailTicks.toNat
      ∧ c.longIdleTicks.toNat ≤ c.gapFwdTicks.toNat
      ∧ c.gapFwdTicks.toNat < c.gapBwdTicks.toNat
      ∧ 52 * c.teTicks.toNat + c.longIdleTicks.toNat < c.echoTimeoutTicks.toNat := by
  simp [jointOk, and_assoc]

/-- JC1 and JC2 keep both burst limits above two half-bits, hence above 2 (R155, R206). -/
theorem two_te_lt_burstLimit (c : CfgFile) (h : jointOk c = true) (l : Level) :
    2 * c.teTicks.toNat < burstLimit c l := by
  obtain ⟨h1, h2, -, -, -⟩ := (jointOk_iff c).1 h
  cases l
  · simp only [burstLimit]; nlinarith [Nat.zero_le (c.teTicks.toNat * c.tolPct.toNat)]
  · simp only [burstLimit]; nlinarith [Nat.zero_le (c.teTicks.toNat * c.tolPct.toNat)]

/-- The model's distance of two durations is the absolute value of their difference (R12, R103). -/
theorem absDiff_eq_abs (a b : Nat) : (absDiff a b : Int) = |(a : Int) - b| := by
  unfold absDiff
  rcases le_total a b with h | h
  · rw [abs_of_nonpos (by omega)]; omega
  · rw [abs_of_nonneg (by omega)]; omega

/-! ### The event queue -/

/-- What `emit` can do: queue the event, or drop it and raise EVQ_OVF. -/
theorem emit_cases (ev : Event) (s : State) :
    (s.evq.length < Config.evqDepth ∧ emit ev s = { s with evq := s.evq ++ [ev] })
    ∨ (Config.evqDepth ≤ s.evq.length ∧ emit ev s = { s with evqOvf := true }) := by
  unfold emit
  by_cases h : s.evq.length < Config.evqDepth
  · exact .inl ⟨h, if_pos h⟩
  · exact .inr ⟨by omega, if_neg h⟩

/-- `emit` keeps EVQ within its capacity (R41). -/
theorem emit_evq_length (ev : Event) (s : State) (h : s.evq.length ≤ Config.evqDepth) :
    (emit ev s).evq.length ≤ Config.evqDepth := by
  obtain ⟨h', e⟩ | ⟨-, e⟩ := emit_cases ev s <;> rw [e]
  · simpa using h'
  · exact h

/-- `emit` acts on EVQ and EVQ_OVF by what they hold alone (R165). -/
theorem emit_congr (ev : Event) {s s' : State} (hq : s'.evq = s.evq) (ho : s'.evqOvf = s.evqOvf) :
    (emit ev s').evq = (emit ev s).evq ∧ (emit ev s').evqOvf = (emit ev s).evqOvf := by
  unfold emit
  rw [hq]
  split <;> simp [ho]

/-! ### Resolve -/

/-- An outcome of a pending transmission (R131 to R134, R139): the event and the LAST_KIND that goes with it. -/
inductive PendingOutcome : State → Event → Kind → Prop where
  | completed (s : State) : PendingOutcome s (.txCompleted s.pending.len s.pending.data) s.pending.len.kind
  | collision (s : State) (r : CollisionReason) : PendingOutcome s (.collisionDetected r) .unknown
  | busFailure (s : State) : PendingOutcome s (.busFailure true) .unknown

/-- What a burst means with nothing pending (R135). -/
inductive Reception : Event → Kind → Prop where
  | received (len : FrameLen) (v : Reg24) : Reception (.frameReceived len v) len.kind
  | error (r : FrameErrorReason) : Reception (.frameError r) .unknown
  | busFailure : Reception (.busFailure false) .unknown

/-- What resolving a burst with an outcome pending can do: one outcome event, PV = 0, LAST_KIND, and TXSEQ stopped
after a bus failure only. -/
theorem resolveResult_pending (r : DecodeResult) (s : State) (h : s.pending.valid = true) :
    ∃ ev k tx, PendingOutcome s ev k ∧ (tx = s.txseq ∨ (ev = .busFailure true ∧ tx = s.txseq.stopSend))
      ∧ resolveResult r s = { emit ev s with
          lastKind := k, pending := { s.pending with valid := false }, txseq := tx } := by
  simp only [resolveResult, h, if_true]
  have plain : ∀ (ev : Event) (k : Kind), closePending (setKind k (emit ev s)) = { emit ev s with
      lastKind := k, pending := { s.pending with valid := false }, txseq := s.txseq } := by
    intro ev k
    obtain ⟨-, e⟩ | ⟨-, e⟩ := emit_cases ev s <;> rw [e] <;> rfl
  cases r with
  | noFrame => exact ⟨_, _, _, .collision s .emptyEcho, .inl rfl, plain _ _⟩
  | busFail =>
    refine ⟨_, _, _, .busFailure s, .inr ⟨rfl, rfl⟩, ?_⟩
    obtain ⟨-, e⟩ | ⟨-, e⟩ := emit_cases (.busFailure true) s <;>
      simp only [resolvePending, emitUnknown, e, stopSending, closePending, setKind]
  | err e => exact ⟨_, _, _, .collision s (.framing e), .inl rfl, plain _ _⟩
  | frame v n =>
    simp only [resolvePending, resolveEcho]
    split
    · exact ⟨_, _, _, .collision s _, .inl rfl, plain _ _⟩
    · split
      · exact ⟨_, _, _, .collision s _, .inl rfl, plain _ _⟩
      · exact ⟨_, _, _, .completed s, .inl rfl, plain _ _⟩

/-- What resolving a burst with nothing pending can do: nothing, or one event and LAST_KIND. -/
theorem resolveResult_nothing_pending (r : DecodeResult) (s : State) (h : s.pending.valid = false) :
    resolveResult r s = s
    ∨ ∃ ev k, Reception ev k ∧ resolveResult r s = { emit ev s with lastKind := k } := by
  simp only [resolveResult, h, Bool.false_eq_true, if_false]
  cases r with
  | noFrame => exact .inl rfl
  | busFail => exact .inr ⟨_, _, .busFailure, rfl⟩
  | err e => exact .inr ⟨_, _, .error (.framing e), rfl⟩
  | frame v n =>
    simp only [resolveIdle, receiveFrame]
    split
    · exact .inr ⟨_, _, .received _ _, rfl⟩
    · exact .inr ⟨_, _, .error _, rfl⟩

/-- Resolving a burst acts on the event queue by the registers, PENDING and the queue alone (R130). -/
theorem resolve_evq_congr (burst : List CapPulse) {s s' : State} (hc : s'.cfg = s.cfg)
    (hp : s'.pending = s.pending) (hq : s'.evq = s.evq) (ho : s'.evqOvf = s.evqOvf) :
    (resolve burst s').evq = (resolve burst s).evq ∧ (resolve burst s').evqOvf = (resolve burst s).evqOvf := by
  have congr := fun ev => emit_congr ev hq ho
  unfold resolve resolveResult
  rw [hc, hp]
  cases s.pending.valid <;> cases decodeBurst s.cfg (burst.map CapPulse.pulse) <;>
    simp only [resolvePending, resolveIdle, resolveEcho, receiveFrame, collide, emitUnknown, setKind, closePending,
      stopSending, hp, Bool.false_eq_true, if_false, if_true] <;>
    first
      | exact congr _
      | exact ⟨hq, ho⟩
      | (split
         · exact congr _
         · first | exact congr _ | (split <;> exact congr _))

/-- What the echo timer's phase can do (R159). -/
theorem echoPhase_cases (s : State) :
    (echoExpired s = false ∧ echoPhase s = s)
    ∨ (echoExpired s = true ∧ s.pending.valid = true
      ∧ echoPhase s = { emit (.collisionDetected .echoTimeout) s with
          lastKind := .unknown, pending := { s.pending with valid := false } }) := by
  unfold echoPhase
  cases h : echoExpired s
  · exact .inl ⟨rfl, by simp⟩
  · have hv : s.pending.valid = true := by
      simp only [echoExpired, Bool.and_eq_true] at h
      exact h.1
    refine .inr ⟨rfl, hv, ?_⟩
    obtain ⟨-, e⟩ | ⟨-, e⟩ := emit_cases (.collisionDetected .echoTimeout) s <;>
      simp only [if_true, echoTimeout, collide, emitUnknown, e] <;> rfl

/-! ### Capture -/

/-- What phase 4 can do: nothing; begin a burst; go on recording one; or end one, re-arm and resolve it (R154 to
R157). -/
theorem capturePhase_cases (l : Level) (s : State) :
    ((s.cap = .off ∨ (s.cap = .wait ∧ l = .idle)) ∧ capturePhase l s = s)
    ∨ (s.cap = .wait ∧ l = .active ∧ capturePhase l s = { s with cap := .run [] .active 1 })
    ∨ ∃ p lv n p' n', s.cap = .run p lv n
        ∧ ((l = lv ∧ p' = p ∧ n' = sat24 (n.toNat + 1)) ∨ (l ≠ lv ∧ p' = push80 p ⟨lv, n⟩ ∧ n' = 1))
        ∧ ((n'.toNat < burstLimit s.cfg l ∧ capturePhase l s = { s with cap := .run p' l n' })
          ∨ (burstLimit s.cfg l ≤ n'.toNat
            ∧ capturePhase l s = resolve (push80 p' ⟨l, n'⟩) { s with cap := .wait })) := by
  have ends : ∀ p n, (n.toNat < burstLimit s.cfg l ∧ endOrRecord p l n s = { s with cap := .run p l n })
      ∨ (burstLimit s.cfg l ≤ n.toNat ∧ endOrRecord p l n s = resolve (push80 p ⟨l, n⟩) { s with cap := .wait }) := by
    intro p n
    unfold endOrRecord
    by_cases h : burstLimit s.cfg l ≤ n.toNat
    · exact .inr ⟨h, if_pos h⟩
    · exact .inl ⟨by omega, if_neg h⟩
  unfold capturePhase
  cases hc : s.cap with
  | off => exact .inl ⟨.inl rfl, rfl⟩
  | wait =>
    cases l
    · exact .inl ⟨.inr ⟨rfl, rfl⟩, rfl⟩
    · exact .inr (.inl ⟨rfl, rfl, rfl⟩)
  | run p lv n =>
    refine .inr (.inr ?_)
    by_cases h : l = lv
    · exact ⟨p, lv, n, p, _, rfl, .inl ⟨h, rfl, rfl⟩, by subst h; simpa using ends p (sat24 (n.toNat + 1))⟩
    · exact ⟨p, lv, n, _, 1, rfl, .inr ⟨h, rfl, rfl⟩, by simpa [h] using ends (push80 p ⟨lv, n⟩) 1⟩

/-! ### Sequencer and start -/

/-- What phase 6 can do (R160, R161). -/
theorem sequencerPhase_cases (s : State) :
    (s.txseq = .idle ∧ sequencerPhase s = s)
    ∨ (∃ d n k, s.txseq = .send d n k
        ∧ ((k + 1 = (2 * n.bits + 4) * s.cfg.teTicks.toNat ∧ sequencerPhase s = { s with txseq := .idle })
          ∨ (k + 1 ≠ (2 * n.bits + 4) * s.cfg.teTicks.toNat
            ∧ sequencerPhase s = { s with txseq := .send d n (k + 1) })))
    ∨ ∃ r, s.txseq = .brk r
        ∧ ((r = 1 ∧ sequencerPhase s = { s with txseq := .idle, cap := .wait, lastKind := .unknown })
          ∨ (r ≠ 1 ∧ sequencerPhase s = { s with txseq := .brk (r - 1) })) := by
  unfold sequencerPhase
  cases h : s.txseq with
  | idle => exact .inl ⟨rfl, rfl⟩
  | send d n k =>
    refine .inr (.inl ⟨d, n, k, rfl, ?_⟩)
    by_cases hk : k + 1 = (2 * n.bits + 4) * s.cfg.teTicks.toNat
    · exact .inl ⟨hk, by simp [hk]⟩
    · exact .inr ⟨hk, by simp [hk]⟩
  | brk r =>
    refine .inr (.inr ⟨r, rfl, ?_⟩)
    by_cases hr : r = 1
    · exact .inl ⟨hr, by simp [hr]⟩
    · exact .inr ⟨hr, by simp [hr]⟩

theorem mayStart_iff (s : State) : mayStart s = true ↔
    s.en = true ∧ s.txseq = .idle ∧ s.pending.valid = false ∧ s.cap = .wait ∧ s.line = .idle
      ∧ gapTicks s.cfg s.lastKind ≤ s.idleCnt.toNat := by
  simp [mayStart, State.gapOk, and_assoc]

/-- What phase 7 can do: nothing, or start the oldest request when R163's conditions hold. -/
theorem startPhase_cases (s : State) :
    ((s.txq = [] ∨ mayStart s = false) ∧ startPhase s = s)
    ∨ ∃ r rest, s.txq = r :: rest ∧ mayStart s = true ∧ startPhase s = startRequest r rest s := by
  unfold startPhase
  cases h : s.txq with
  | nil => exact .inl ⟨.inl rfl, rfl⟩
  | cons r rest =>
    cases hm : mayStart s
    · exact .inl ⟨.inr rfl, by simp⟩
    · exact .inr ⟨r, rest, rfl, rfl, by simp⟩

/-! ### Commands -/

/-- What a TX command can do: one of its three refusals, or queue the request (R191). -/
theorem txRequest_cases (len : FrameLen) (d : Reg24) (s : State) :
    (s.en = false ∧ txRequest len d s = raise .disabled s)
    ∨ (s.en = true ∧ dataFits d len = false ∧ txRequest len d s = raise .badArg s)
    ∨ (s.en = true ∧ dataFits d len = true ∧ s.txq.length = Config.txqDepth ∧ txRequest len d s = raise .full s)
    ∨ (s.en = true ∧ dataFits d len = true ∧ s.txq.length ≠ Config.txqDepth
      ∧ txRequest len d s = respond .ok (BitVec.ofNat 32 (s.txq.length + 1)) { s with txq := s.txq ++ [⟨d, len⟩] }) := by
  unfold txRequest
  cases he : s.en
  · exact .inl ⟨rfl, rfl⟩
  · cases hd : dataFits d len
    · exact .inr (.inl ⟨rfl, rfl, rfl⟩)
    · by_cases hl : s.txq.length = Config.txqDepth
      · exact .inr (.inr (.inl ⟨rfl, rfl, hl, by simp [hl]⟩))
      · exact .inr (.inr (.inr ⟨rfl, rfl, hl, by simp [hl]⟩))

/-- What BREAK can do (R196). -/
theorem breakCommand_cases (s : State) :
    (s.en = false ∧ breakCommand s = raise .disabled s)
    ∨ (s.en = true ∧ (s.txseq ≠ .idle ∨ s.pending.valid = true) ∧ breakCommand s = raise .busy s)
    ∨ (s.en = true ∧ s.txseq = .idle ∧ s.pending.valid = false ∧ breakCommand s = startBreak s) := by
  unfold breakCommand
  cases he : s.en
  · exact .inl ⟨rfl, rfl⟩
  · by_cases hb : s.txseq ≠ .idle ∨ s.pending.valid = true
    · exact .inr (.inl ⟨rfl, hb, by simp [hb]⟩)
    · have hb' := hb
      simp only [ne_eq, not_or, not_not, Bool.not_eq_true] at hb'
      exact .inr (.inr ⟨rfl, hb'.1, hb'.2, by simp [hb'.1, hb'.2]⟩)

/-- What a write of a timing register can do (R200). -/
theorem writeTiming_cases (r : CfgReg) (v : Reg24) (s : State) :
    (s.en = true ∧ writeTiming r v s = raise .busy s)
    ∨ (s.en = false ∧ timingValueLegal r v = false ∧ writeTiming r v s = raise .badArg s)
    ∨ (s.en = false ∧ timingValueLegal r v = true
      ∧ writeTiming r v s = respond .ok 0 { s with cfg := s.cfg.write r v }) := by
  unfold writeTiming
  cases he : s.en
  · cases hv : timingValueLegal r v
    · exact .inr (.inl ⟨rfl, rfl, rfl⟩)
    · exact .inr (.inr ⟨rfl, rfl, rfl⟩)
  · exact .inl ⟨rfl, rfl⟩

/-- What a write of CTRL can do: refuse, enable, disable, or set the register alone (R201, R207, R208). -/
theorem writeCtrl_cases (v : Reg24) (s : State) :
    writeCtrl v s = raise .badArg s
    ∨ (ctrlReserved v = 0#22 ∧ s.en = false ∧ v.getLsbD 0 = true ∧ jointOk s.cfg = true
      ∧ writeCtrl v s = respond .ok 0 (enableBlock { s with cfg := { s.cfg with ctrl := v } }))
    ∨ (ctrlReserved v = 0#22 ∧ s.en = true ∧ v.getLsbD 0 = false
      ∧ writeCtrl v s = respond .ok 0 (disableBlock { s with cfg := { s.cfg with ctrl := v } }))
    ∨ (ctrlReserved v = 0#22 ∧ v.getLsbD 0 = s.en
      ∧ writeCtrl v s = respond .ok 0 { s with cfg := { s.cfg with ctrl := v } }) := by
  unfold writeCtrl
  by_cases hr : ctrlReserved v = 0#22
  · cases he : s.en <;> cases hv : v.getLsbD 0 <;> cases hj : jointOk s.cfg <;>
      simp [hr, enChange, CfgFile.write]
  · exact .inl (if_pos hr)

/-- What EVPOP can do (R197). -/
theorem popEvent_cases (s : State) :
    (s.evq = [] ∧ popEvent s = respond .ok 0 s)
    ∨ ∃ ev rest, s.evq = ev :: rest ∧ popEvent s = respond .ok (eventWord ev) { s with evq := rest } := by
  unfold popEvent
  cases h : s.evq with
  | nil => exact .inl ⟨rfl, rfl⟩
  | cons ev rest => exact .inr ⟨ev, rest, rfl, rfl⟩

/-- A write to a named register is a CTRL write or a timing write (R200, R201). -/
theorem writeRegister_eq (r : CfgReg) (v : Reg24) (s : State) :
    writeRegister r v s = if r = .ctrl then writeCtrl v s else writeTiming r v s := by
  cases r <;> rfl

/-! ### Inputs -/

/-- What taking the next input does to the state: the environment moves on, the block does not (log 1). -/
theorem takeInput_cases (s : State) :
    (s.env.inputs = [] ∧ nextInput s = Config.freeInput s.env.draws
      ∧ takeInput s = { s with env := { s.env with draws := s.env.draws + 1 } })
    ∨ ∃ x rest, s.env.inputs = x :: rest ∧ nextInput s = x
      ∧ takeInput s = { s with env := { s.env with inputs := rest } } := by
  unfold nextInput takeInput
  cases h : s.env.inputs with
  | nil => exact .inl ⟨rfl, rfl, rfl⟩
  | cons x rest => exact .inr ⟨x, rest, rfl, rfl, rfl⟩

end Sys2Proof.Machine
end

