-- ==== Sys2Proof/Laws/PerInstr.lean ====
section
/-! SUPPORT. Laws/PerInstr.lean: statements made per instruction. `MatchesTableRow`: the word of a command matches its
row of spec/opcode_table.json, `word & mask = match`. -/

namespace Sys2Proof.Laws.MatchesTableRow

/-- The encoded word of `i` matches the table row of `i` (30_encoding.md R74, opcode_table.json). -/
def Statement (i : Instr) : Prop := encode i &&& i.row.mask = i.row.pattern

theorem nop : Statement .nop := by unfold Statement; decide

theorem tx8 (d : Reg24) : Statement (.tx8 d) := by
  apply BitVec.eq_of_getLsbD_eq
  intro i hi
  simp only [encode, Instr.row, BitVec.getLsbD_and, BitVec.getLsbD_append]
  interval_cases i <;> simp

theorem tx16 (d : Reg24) : Statement (.tx16 d) := by
  apply BitVec.eq_of_getLsbD_eq
  intro i hi
  simp only [encode, Instr.row, BitVec.getLsbD_and, BitVec.getLsbD_append]
  interval_cases i <;> simp

theorem tx24 (d : Reg24) : Statement (.tx24 d) := by
  apply BitVec.eq_of_getLsbD_eq
  intro i hi
  simp only [encode, Instr.row, BitVec.getLsbD_and, BitVec.getLsbD_append]
  interval_cases i <;> simp

theorem brk : Statement .brk := by unfold Statement; decide

theorem evpop : Statement .evpop := by unfold Statement; decide

theorem evflush : Statement .evflush := by unfold Statement; decide

theorem status : Statement .status := by unfold Statement; decide

theorem cfgw (idx : BitVec 4) (v : Reg24) : Statement (.cfgw idx v) := by
  apply BitVec.eq_of_getLsbD_eq
  intro i hi
  simp only [encode, Instr.row, BitVec.getLsbD_and, BitVec.getLsbD_append]
  interval_cases i <;> simp

theorem cfgr (idx : BitVec 4) : Statement (.cfgr idx) := by
  revert idx; unfold Statement; decide

theorem clrf (m : Bool) : Statement (.clrf m) := by
  revert m; unfold Statement; decide

theorem rdnow : Statement .rdnow := by unfold Statement; decide

theorem rdedge : Statement .rdedge := by unfold Statement; decide

end Sys2Proof.Laws.MatchesTableRow
end

