-- ==== Sys2Proof/Laws/Phases.lean ====
section
/-! SUPPORT. Laws/Phases.lean: the fields each phase of a tick step leaves alone (42_frame_driver.md R150 to R164). -/

namespace Sys2Proof.Machine

/-! ### Resolve: only EVQ, EVQ_OVF, LAST_KIND, PENDING and TXSEQ can change -/

@[simp] theorem resolve_cfg (b : List CapPulse) (s : State) : (resolve b s).cfg = s.cfg := by
  unfold resolve
  cases h : s.pending.valid
  · obtain e | ⟨_, _, -, e⟩ := resolveResult_nothing_pending (decodeBurst s.cfg (b.map CapPulse.pulse)) s h <;> simp [e]
  · obtain ⟨_, _, _, -, -, e⟩ := resolveResult_pending (decodeBurst s.cfg (b.map CapPulse.pulse)) s h
    simp [e]

@[simp] theorem resolve_now (b : List CapPulse) (s : State) : (resolve b s).now = s.now := by
  unfold resolve
  cases h : s.pending.valid
  · obtain e | ⟨_, _, -, e⟩ := resolveResult_nothing_pending (decodeBurst s.cfg (b.map CapPulse.pulse)) s h <;> simp [e]
  · obtain ⟨_, _, _, -, -, e⟩ := resolveResult_pending (decodeBurst s.cfg (b.map CapPulse.pulse)) s h
    simp [e]

@[simp] theorem resolve_line (b : List CapPulse) (s : State) : (resolve b s).line = s.line := by
  unfold resolve
  cases h : s.pending.valid
  · obtain e | ⟨_, _, -, e⟩ := resolveResult_nothing_pending (decodeBurst s.cfg (b.map CapPulse.pulse)) s h <;> simp [e]
  · obtain ⟨_, _, _, -, -, e⟩ := resolveResult_pending (decodeBurst s.cfg (b.map CapPulse.pulse)) s h
    simp [e]

@[simp] theorem resolve_lastEdge (b : List CapPulse) (s : State) : (resolve b s).lastEdge = s.lastEdge := by
  unfold resolve
  cases h : s.pending.valid
  · obtain e | ⟨_, _, -, e⟩ := resolveResult_nothing_pending (decodeBurst s.cfg (b.map CapPulse.pulse)) s h <;> simp [e]
  · obtain ⟨_, _, _, -, -, e⟩ := resolveResult_pending (decodeBurst s.cfg (b.map CapPulse.pulse)) s h
    simp [e]

@[simp] theorem resolve_idleCnt (b : List CapPulse) (s : State) : (resolve b s).idleCnt = s.idleCnt := by
  unfold resolve
  cases h : s.pending.valid
  · obtain e | ⟨_, _, -, e⟩ := resolveResult_nothing_pending (decodeBurst s.cfg (b.map CapPulse.pulse)) s h <;> simp [e]
  · obtain ⟨_, _, _, -, -, e⟩ := resolveResult_pending (decodeBurst s.cfg (b.map CapPulse.pulse)) s h
    simp [e]

@[simp] theorem resolve_txq (b : List CapPulse) (s : State) : (resolve b s).txq = s.txq := by
  unfold resolve
  cases h : s.pending.valid
  · obtain e | ⟨_, _, -, e⟩ := resolveResult_nothing_pending (decodeBurst s.cfg (b.map CapPulse.pulse)) s h <;> simp [e]
  · obtain ⟨_, _, _, -, -, e⟩ := resolveResult_pending (decodeBurst s.cfg (b.map CapPulse.pulse)) s h
    simp [e]

@[simp] theorem resolve_drvActive (b : List CapPulse) (s : State) : (resolve b s).drvActive = s.drvActive := by
  unfold resolve
  cases h : s.pending.valid
  · obtain e | ⟨_, _, -, e⟩ := resolveResult_nothing_pending (decodeBurst s.cfg (b.map CapPulse.pulse)) s h <;> simp [e]
  · obtain ⟨_, _, _, -, -, e⟩ := resolveResult_pending (decodeBurst s.cfg (b.map CapPulse.pulse)) s h
    simp [e]

@[simp] theorem resolve_rspStatus (b : List CapPulse) (s : State) : (resolve b s).rspStatus = s.rspStatus := by
  unfold resolve
  cases h : s.pending.valid
  · obtain e | ⟨_, _, -, e⟩ := resolveResult_nothing_pending (decodeBurst s.cfg (b.map CapPulse.pulse)) s h <;> simp [e]
  · obtain ⟨_, _, _, -, -, e⟩ := resolveResult_pending (decodeBurst s.cfg (b.map CapPulse.pulse)) s h
    simp [e]

@[simp] theorem resolve_rspData (b : List CapPulse) (s : State) : (resolve b s).rspData = s.rspData := by
  unfold resolve
  cases h : s.pending.valid
  · obtain e | ⟨_, _, -, e⟩ := resolveResult_nothing_pending (decodeBurst s.cfg (b.map CapPulse.pulse)) s h <;> simp [e]
  · obtain ⟨_, _, _, -, -, e⟩ := resolveResult_pending (decodeBurst s.cfg (b.map CapPulse.pulse)) s h
    simp [e]

@[simp] theorem resolve_env (b : List CapPulse) (s : State) : (resolve b s).env = s.env := by
  unfold resolve
  cases h : s.pending.valid
  · obtain e | ⟨_, _, -, e⟩ := resolveResult_nothing_pending (decodeBurst s.cfg (b.map CapPulse.pulse)) s h <;> simp [e]
  · obtain ⟨_, _, _, -, -, e⟩ := resolveResult_pending (decodeBurst s.cfg (b.map CapPulse.pulse)) s h
    simp [e]

@[simp] theorem resolve_cap (b : List CapPulse) (s : State) : (resolve b s).cap = s.cap := by
  unfold resolve
  cases h : s.pending.valid
  · obtain e | ⟨_, _, -, e⟩ := resolveResult_nothing_pending (decodeBurst s.cfg (b.map CapPulse.pulse)) s h <;> simp [e]
  · obtain ⟨_, _, _, -, -, e⟩ := resolveResult_pending (decodeBurst s.cfg (b.map CapPulse.pulse)) s h
    simp [e]

/-! ### Phase 4, Capture -/

@[simp] theorem capturePhase_cfg (l : Level) (s : State) : (capturePhase l s).cfg = s.cfg := by
  obtain ⟨-, e⟩ | ⟨-, -, e⟩ | ⟨_, _, _, _, _, -, -, ⟨-, e⟩ | ⟨-, e⟩⟩ := capturePhase_cases l s <;> simp [e]

@[simp] theorem capturePhase_now (l : Level) (s : State) : (capturePhase l s).now = s.now := by
  obtain ⟨-, e⟩ | ⟨-, -, e⟩ | ⟨_, _, _, _, _, -, -, ⟨-, e⟩ | ⟨-, e⟩⟩ := capturePhase_cases l s <;> simp [e]

@[simp] theorem capturePhase_line (l : Level) (s : State) : (capturePhase l s).line = s.line := by
  obtain ⟨-, e⟩ | ⟨-, -, e⟩ | ⟨_, _, _, _, _, -, -, ⟨-, e⟩ | ⟨-, e⟩⟩ := capturePhase_cases l s <;> simp [e]

@[simp] theorem capturePhase_lastEdge (l : Level) (s : State) : (capturePhase l s).lastEdge = s.lastEdge := by
  obtain ⟨-, e⟩ | ⟨-, -, e⟩ | ⟨_, _, _, _, _, -, -, ⟨-, e⟩ | ⟨-, e⟩⟩ := capturePhase_cases l s <;> simp [e]

@[simp] theorem capturePhase_idleCnt (l : Level) (s : State) : (capturePhase l s).idleCnt = s.idleCnt := by
  obtain ⟨-, e⟩ | ⟨-, -, e⟩ | ⟨_, _, _, _, _, -, -, ⟨-, e⟩ | ⟨-, e⟩⟩ := capturePhase_cases l s <;> simp [e]

@[simp] theorem capturePhase_txq (l : Level) (s : State) : (capturePhase l s).txq = s.txq := by
  obtain ⟨-, e⟩ | ⟨-, -, e⟩ | ⟨_, _, _, _, _, -, -, ⟨-, e⟩ | ⟨-, e⟩⟩ := capturePhase_cases l s <;> simp [e]

@[simp] theorem capturePhase_drvActive (l : Level) (s : State) : (capturePhase l s).drvActive = s.drvActive := by
  obtain ⟨-, e⟩ | ⟨-, -, e⟩ | ⟨_, _, _, _, _, -, -, ⟨-, e⟩ | ⟨-, e⟩⟩ := capturePhase_cases l s <;> simp [e]

@[simp] theorem capturePhase_rspStatus (l : Level) (s : State) : (capturePhase l s).rspStatus = s.rspStatus := by
  obtain ⟨-, e⟩ | ⟨-, -, e⟩ | ⟨_, _, _, _, _, -, -, ⟨-, e⟩ | ⟨-, e⟩⟩ := capturePhase_cases l s <;> simp [e]

@[simp] theorem capturePhase_rspData (l : Level) (s : State) : (capturePhase l s).rspData = s.rspData := by
  obtain ⟨-, e⟩ | ⟨-, -, e⟩ | ⟨_, _, _, _, _, -, -, ⟨-, e⟩ | ⟨-, e⟩⟩ := capturePhase_cases l s <;> simp [e]

@[simp] theorem capturePhase_env (l : Level) (s : State) : (capturePhase l s).env = s.env := by
  obtain ⟨-, e⟩ | ⟨-, -, e⟩ | ⟨_, _, _, _, _, -, -, ⟨-, e⟩ | ⟨-, e⟩⟩ := capturePhase_cases l s <;> simp [e]

/-! ### Phase 5, EchoTimer -/

@[simp] theorem echoPhase_cfg (s : State) : (echoPhase s).cfg = s.cfg := by
  obtain ⟨-, e⟩ | ⟨-, -, e⟩ := echoPhase_cases s <;> simp [e]

@[simp] theorem echoPhase_now (s : State) : (echoPhase s).now = s.now := by
  obtain ⟨-, e⟩ | ⟨-, -, e⟩ := echoPhase_cases s <;> simp [e]

@[simp] theorem echoPhase_line (s : State) : (echoPhase s).line = s.line := by
  obtain ⟨-, e⟩ | ⟨-, -, e⟩ := echoPhase_cases s <;> simp [e]

@[simp] theorem echoPhase_lastEdge (s : State) : (echoPhase s).lastEdge = s.lastEdge := by
  obtain ⟨-, e⟩ | ⟨-, -, e⟩ := echoPhase_cases s <;> simp [e]

@[simp] theorem echoPhase_idleCnt (s : State) : (echoPhase s).idleCnt = s.idleCnt := by
  obtain ⟨-, e⟩ | ⟨-, -, e⟩ := echoPhase_cases s <;> simp [e]

@[simp] theorem echoPhase_txq (s : State) : (echoPhase s).txq = s.txq := by
  obtain ⟨-, e⟩ | ⟨-, -, e⟩ := echoPhase_cases s <;> simp [e]

@[simp] theorem echoPhase_drvActive (s : State) : (echoPhase s).drvActive = s.drvActive := by
  obtain ⟨-, e⟩ | ⟨-, -, e⟩ := echoPhase_cases s <;> simp [e]

@[simp] theorem echoPhase_rspStatus (s : State) : (echoPhase s).rspStatus = s.rspStatus := by
  obtain ⟨-, e⟩ | ⟨-, -, e⟩ := echoPhase_cases s <;> simp [e]

@[simp] theorem echoPhase_rspData (s : State) : (echoPhase s).rspData = s.rspData := by
  obtain ⟨-, e⟩ | ⟨-, -, e⟩ := echoPhase_cases s <;> simp [e]

@[simp] theorem echoPhase_env (s : State) : (echoPhase s).env = s.env := by
  obtain ⟨-, e⟩ | ⟨-, -, e⟩ := echoPhase_cases s <;> simp [e]

@[simp] theorem echoPhase_cap (s : State) : (echoPhase s).cap = s.cap := by
  obtain ⟨-, e⟩ | ⟨-, -, e⟩ := echoPhase_cases s <;> simp [e]

@[simp] theorem echoPhase_txseq (s : State) : (echoPhase s).txseq = s.txseq := by
  obtain ⟨-, e⟩ | ⟨-, -, e⟩ := echoPhase_cases s <;> simp [e]

/-! ### Phase 6, SequencerAdvance -/

@[simp] theorem sequencerPhase_cfg (s : State) : (sequencerPhase s).cfg = s.cfg := by
  obtain ⟨-, e⟩ | ⟨_, _, _, -, ⟨-, e⟩ | ⟨-, e⟩⟩ | ⟨_, -, ⟨-, e⟩ | ⟨-, e⟩⟩ := sequencerPhase_cases s <;> simp [e]

@[simp] theorem sequencerPhase_now (s : State) : (sequencerPhase s).now = s.now := by
  obtain ⟨-, e⟩ | ⟨_, _, _, -, ⟨-, e⟩ | ⟨-, e⟩⟩ | ⟨_, -, ⟨-, e⟩ | ⟨-, e⟩⟩ := sequencerPhase_cases s <;> simp [e]

@[simp] theorem sequencerPhase_line (s : State) : (sequencerPhase s).line = s.line := by
  obtain ⟨-, e⟩ | ⟨_, _, _, -, ⟨-, e⟩ | ⟨-, e⟩⟩ | ⟨_, -, ⟨-, e⟩ | ⟨-, e⟩⟩ := sequencerPhase_cases s <;> simp [e]

@[simp] theorem sequencerPhase_lastEdge (s : State) : (sequencerPhase s).lastEdge = s.lastEdge := by
  obtain ⟨-, e⟩ | ⟨_, _, _, -, ⟨-, e⟩ | ⟨-, e⟩⟩ | ⟨_, -, ⟨-, e⟩ | ⟨-, e⟩⟩ := sequencerPhase_cases s <;> simp [e]

@[simp] theorem sequencerPhase_idleCnt (s : State) : (sequencerPhase s).idleCnt = s.idleCnt := by
  obtain ⟨-, e⟩ | ⟨_, _, _, -, ⟨-, e⟩ | ⟨-, e⟩⟩ | ⟨_, -, ⟨-, e⟩ | ⟨-, e⟩⟩ := sequencerPhase_cases s <;> simp [e]

@[simp] theorem sequencerPhase_txq (s : State) : (sequencerPhase s).txq = s.txq := by
  obtain ⟨-, e⟩ | ⟨_, _, _, -, ⟨-, e⟩ | ⟨-, e⟩⟩ | ⟨_, -, ⟨-, e⟩ | ⟨-, e⟩⟩ := sequencerPhase_cases s <;> simp [e]

@[simp] theorem sequencerPhase_drvActive (s : State) : (sequencerPhase s).drvActive = s.drvActive := by
  obtain ⟨-, e⟩ | ⟨_, _, _, -, ⟨-, e⟩ | ⟨-, e⟩⟩ | ⟨_, -, ⟨-, e⟩ | ⟨-, e⟩⟩ := sequencerPhase_cases s <;> simp [e]

@[simp] theorem sequencerPhase_rspStatus (s : State) : (sequencerPhase s).rspStatus = s.rspStatus := by
  obtain ⟨-, e⟩ | ⟨_, _, _, -, ⟨-, e⟩ | ⟨-, e⟩⟩ | ⟨_, -, ⟨-, e⟩ | ⟨-, e⟩⟩ := sequencerPhase_cases s <;> simp [e]

@[simp] theorem sequencerPhase_rspData (s : State) : (sequencerPhase s).rspData = s.rspData := by
  obtain ⟨-, e⟩ | ⟨_, _, _, -, ⟨-, e⟩ | ⟨-, e⟩⟩ | ⟨_, -, ⟨-, e⟩ | ⟨-, e⟩⟩ := sequencerPhase_cases s <;> simp [e]

@[simp] theorem sequencerPhase_env (s : State) : (sequencerPhase s).env = s.env := by
  obtain ⟨-, e⟩ | ⟨_, _, _, -, ⟨-, e⟩ | ⟨-, e⟩⟩ | ⟨_, -, ⟨-, e⟩ | ⟨-, e⟩⟩ := sequencerPhase_cases s <;> simp [e]

@[simp] theorem sequencerPhase_pending (s : State) : (sequencerPhase s).pending = s.pending := by
  obtain ⟨-, e⟩ | ⟨_, _, _, -, ⟨-, e⟩ | ⟨-, e⟩⟩ | ⟨_, -, ⟨-, e⟩ | ⟨-, e⟩⟩ := sequencerPhase_cases s <;> simp [e]

@[simp] theorem sequencerPhase_evq (s : State) : (sequencerPhase s).evq = s.evq := by
  obtain ⟨-, e⟩ | ⟨_, _, _, -, ⟨-, e⟩ | ⟨-, e⟩⟩ | ⟨_, -, ⟨-, e⟩ | ⟨-, e⟩⟩ := sequencerPhase_cases s <;> simp [e]

@[simp] theorem sequencerPhase_evqOvf (s : State) : (sequencerPhase s).evqOvf = s.evqOvf := by
  obtain ⟨-, e⟩ | ⟨_, _, _, -, ⟨-, e⟩ | ⟨-, e⟩⟩ | ⟨_, -, ⟨-, e⟩ | ⟨-, e⟩⟩ := sequencerPhase_cases s <;> simp [e]

/-! ### Phase 7, TxStart -/

@[simp] theorem startPhase_cfg (s : State) : (startPhase s).cfg = s.cfg := by
  obtain ⟨-, e⟩ | ⟨_, _, -, -, e⟩ := startPhase_cases s <;> simp [e]

@[simp] theorem startPhase_now (s : State) : (startPhase s).now = s.now := by
  obtain ⟨-, e⟩ | ⟨_, _, -, -, e⟩ := startPhase_cases s <;> simp [e]

@[simp] theorem startPhase_line (s : State) : (startPhase s).line = s.line := by
  obtain ⟨-, e⟩ | ⟨_, _, -, -, e⟩ := startPhase_cases s <;> simp [e]

@[simp] theorem startPhase_lastEdge (s : State) : (startPhase s).lastEdge = s.lastEdge := by
  obtain ⟨-, e⟩ | ⟨_, _, -, -, e⟩ := startPhase_cases s <;> simp [e]

@[simp] theorem startPhase_idleCnt (s : State) : (startPhase s).idleCnt = s.idleCnt := by
  obtain ⟨-, e⟩ | ⟨_, _, -, -, e⟩ := startPhase_cases s <;> simp [e]

@[simp] theorem startPhase_lastKind (s : State) : (startPhase s).lastKind = s.lastKind := by
  obtain ⟨-, e⟩ | ⟨_, _, -, -, e⟩ := startPhase_cases s <;> simp [e]

@[simp] theorem startPhase_cap (s : State) : (startPhase s).cap = s.cap := by
  obtain ⟨-, e⟩ | ⟨_, _, -, -, e⟩ := startPhase_cases s <;> simp [e]

@[simp] theorem startPhase_evq (s : State) : (startPhase s).evq = s.evq := by
  obtain ⟨-, e⟩ | ⟨_, _, -, -, e⟩ := startPhase_cases s <;> simp [e]

@[simp] theorem startPhase_evqOvf (s : State) : (startPhase s).evqOvf = s.evqOvf := by
  obtain ⟨-, e⟩ | ⟨_, _, -, -, e⟩ := startPhase_cases s <;> simp [e]

@[simp] theorem startPhase_drvActive (s : State) : (startPhase s).drvActive = s.drvActive := by
  obtain ⟨-, e⟩ | ⟨_, _, -, -, e⟩ := startPhase_cases s <;> simp [e]

@[simp] theorem startPhase_rspStatus (s : State) : (startPhase s).rspStatus = s.rspStatus := by
  obtain ⟨-, e⟩ | ⟨_, _, -, -, e⟩ := startPhase_cases s <;> simp [e]

@[simp] theorem startPhase_rspData (s : State) : (startPhase s).rspData = s.rspData := by
  obtain ⟨-, e⟩ | ⟨_, _, -, -, e⟩ := startPhase_cases s <;> simp [e]

@[simp] theorem startPhase_env (s : State) : (startPhase s).env = s.env := by
  obtain ⟨-, e⟩ | ⟨_, _, -, -, e⟩ := startPhase_cases s <;> simp [e]

end Sys2Proof.Machine
end

