-- ==== Sys2Proof/Laws/Word.lean ====
section
/-! SUPPORT. Laws/Word.lean: a command word taken apart into its fields, and the fields of words put together. -/

namespace Sys2Proof

/-- A word is its OPC, IDX and DATA fields (30_encoding.md R74). -/
theorem word_eq_fields (w : Word) : w = opcField w ++ (idxField w ++ dataField w) := by
  apply BitVec.eq_of_getLsbD_eq
  intro i hi
  simp only [opcField, idxField, dataField, BitVec.getLsbD_extractLsb', BitVec.getLsbD_append]
  interval_cases i <;> simp

/-- The OPC field of a word put together from OPC, IDX and DATA. -/
@[simp] theorem opcField_append (a b : BitVec 4) (d : Reg24) : opcField (a ++ (b ++ d)) = a := by
  apply BitVec.eq_of_getLsbD_eq
  intro i hi
  simp only [opcField, BitVec.getLsbD_extractLsb', BitVec.getLsbD_append]
  interval_cases i <;> simp

/-- The IDX field of a word put together from OPC, IDX and DATA. -/
@[simp] theorem idxField_append (a b : BitVec 4) (d : Reg24) : idxField (a ++ (b ++ d)) = b := by
  apply BitVec.eq_of_getLsbD_eq
  intro i hi
  simp only [idxField, BitVec.getLsbD_extractLsb', BitVec.getLsbD_append]
  interval_cases i <;> simp

/-- The DATA field of a word put together from OPC, IDX and DATA. -/
@[simp] theorem dataField_append (a b : BitVec 4) (d : Reg24) : dataField (a ++ (b ++ d)) = d := by
  apply BitVec.eq_of_getLsbD_eq
  intro i hi
  simp only [dataField, BitVec.getLsbD_extractLsb', BitVec.getLsbD_append]
  interval_cases i <;> simp

end Sys2Proof
end

