-- ==== Sys2Proof/Tests/Slice0.lean ====
section
/-! SUPPORT. Tests/Slice0.lean: words written out from 30_encoding.md, vectors of 95_test_vectors.md (named in each
comment), and for every obligation with premises a theorem that shows states and operands that meet them. -/

namespace Sys2Proof.Tests

open Sys2Proof Sys2Proof.Machine

/-! ## Well-formedness and decoding -/

theorem test_wellFormed_refuses_cfgw_9 : (Instr.cfgw 9 0).wellFormed = false := by decide
theorem test_wellFormed_refuses_cfgr_15 : (Instr.cfgr 15).wellFormed = false := by decide
theorem test_wellFormed_accepts_index_8 :
    (Instr.cfgw 8 0).wellFormed = true ∧ (Instr.cfgr 8).wellFormed = true := by decide

-- R74: 0000 and twenty-eight zeros.
theorem test_decode_nop : decode 0b00000000000000000000000000000000 = some .nop := by decide
-- R74, R75: 0001 00 00, then DATA = 1010 0101.
theorem test_decode_tx8 : decode 0b00010000000000000000000010100101 = some (.tx8 0xA5) := by decide
-- R75: LEN = 01, DATA = 0xFE80.
theorem test_decode_tx16 : decode 0b00010001000000001111111010000000 = some (.tx16 0xFE80) := by decide
-- R75: LEN = 10, DATA = 0xA1B2C3.
theorem test_decode_tx24 : decode 0b00010010101000011011001011000011 = some (.tx24 0xA1B2C3) := by decide
theorem test_decode_break : decode 0b00100000000000000000000000000000 = some .brk := by decide
theorem test_decode_evpop : decode 0b00110000000000000000000000000000 = some .evpop := by decide
theorem test_decode_evflush : decode 0b01000000000000000000000000000000 = some .evflush := by decide
theorem test_decode_status : decode 0b01010000000000000000000000000000 = some .status := by decide
-- R74: 0110, IDX = 0101, VAL = 0x00238E (vector H5).
theorem test_decode_cfgw : decode 0b01100101000000000010001110001110 = some (.cfgw 5 0x238E) := by decide
-- R74: 0111, IDX = 0110 (vector H26).
theorem test_decode_cfgr : decode 0b01110110000000000000000000000000 = some (.cfgr 6) := by decide
theorem test_decode_clrf : decode 0b10000000000000000000000000000001 = some (.clrf true)
    ∧ decode 0b10000000000000000000000000000000 = some (.clrf false) := by decide
theorem test_decode_rdnow : decode 0b10010000000000000000000000000000 = some .rdnow := by decide
theorem test_decode_rdedge : decode 0b10010000000000000000000000000001 = some .rdedge := by decide
-- R86.
theorem test_decode_pseudo : decode 0x68000001 = some Instr.enable ∧ decode 0x68000003 = some Instr.enableIrq
    ∧ decode 0x68000000 = some Instr.disable ∧ decode 0x80000001 = some Instr.clrovf := by decide
-- R76; vectors H13 to H19.
theorem test_decode_illegal : decode 0x13000000 = none ∧ decode 0xA0000000 = none ∧ decode 0x79000000 = none
    ∧ decode 0x70000001 = none ∧ decode 0x80000002 = none ∧ decode 0x00000001 = none ∧ decode 0x14000000 = none
    ∧ decode 0x69000000 = none ∧ decode 0xF0000000 = none ∧ decode 0x7F000000 = none
    ∧ decode 0x88000000 = none ∧ decode 0x90000002 = none ∧ decode 0x28000000 = none := by decide

/-! ## Commands, each one step of the machine -/

/-- What the command port answers to a word. -/
def answer (w : Nat) (s : State) : Option (Status × Word) :=
  match step (s.withFetchWord 32 w) with
  | .next t => some (t.rspStatus, t.rspData)
  | .fault _ => none
  | .refused _ => none

/-- The state after the command step on a word. -/
def after (w : Nat) (s : State) : State :=
  match step (s.withFetchWord 32 w) with
  | .next t => t
  | .fault _ => s
  | .refused _ => s

/-- Enabled at the reset values of the timing registers (vector H8). -/
def on : State := { State.reset with cfg := { CfgFile.reset with ctrl := 1 }, cap := .wait }

/-- `on` with two events queued. -/
def withEvents : State := { on with evq := [.txCompleted .b16 0xFE80, .busFailure false] }

/-- A request of 8 bits. -/
def req (d : Reg24) : TxReq := ⟨d, .b8⟩

-- H18's neighbour: R195's example.
theorem test_nop : answer 0x00000000 State.reset = some (.ok, 0) := by decide
-- H1; R192's example.
theorem test_tx8_disabled : answer 0x10000001 State.reset = some (.disabled, 0) := by decide
theorem test_tx8_queues : answer 0x100000A5 on = some (.ok, 1) ∧ (after 0x100000A5 on).txq = [req 0xA5] := by decide
-- H37; R193's example.
theorem test_tx16_bad_arg : answer 0x11010000 on = some (.badArg, 0) := by decide
theorem test_tx16_second : answer 0x1100FE80 { on with txq := [req 0xA5] } = some (.ok, 2)
    ∧ (after 0x1100FE80 { on with txq := [req 0xA5] }).txq = [req 0xA5, ⟨0xFE80, .b16⟩] := by decide
-- R194's example; H36.
theorem test_tx24_full : answer 0x12A1B2C3 { on with txq := [req 1, req 2, req 3, req 4] } = some (.full, 0) := by
  decide
theorem test_tx24_widest : answer 0x12FFFFFF on = some (.ok, 1) := by decide
-- H21, H35.
theorem test_break : answer 0x20000000 on = some (.ok, 0) ∧ (after 0x20000000 on).txseq = .brk 1300
    ∧ (after 0x20000000 on).cap = .off := by decide
theorem test_break_busy : answer 0x20000000 { on with txseq := .send 1 .b8 0 } = some (.busy, 0) := by decide
-- R197's example; H28.
theorem test_evpop : answer 0x30000000 withEvents = some (.ok, 0x4100FE80)
    ∧ (after 0x30000000 withEvents).evq = [.busFailure false] := by decide
theorem test_evpop_empty : answer 0x30000000 State.reset = some (.ok, 0) := by decide
-- R198.
theorem test_evflush : answer 0x40000000 withEvents = some (.ok, 2) ∧ (after 0x40000000 withEvents).evq = [] := by
  decide
-- H20; R199's example.
theorem test_status : answer 0x50000000 { on with txq := [req 1, req 2, req 3, req 4] } = some (.ok, 0x4001) := by
  decide
theorem test_status_gap : answer 0x50000000 { on with idleCnt := 13500 } = some (.ok, 0x21)
    ∧ answer 0x50000000 { on with idleCnt := 13499 } = some (.ok, 0x01) := by decide
-- H5, H6, H9.
theorem test_cfgw_joint : answer 0x6500238E State.reset = some (.ok, 0)
    ∧ answer 0x68000001 (after 0x6500238E State.reset) = some (.badArg, 0) := by decide
theorem test_cfgw_busy_and_enable : answer 0x60000001 on = some (.busy, 0)
    ∧ (after 0x68000001 State.reset).cap = .wait ∧ (after 0x68000001 State.reset).cfg.ctrl = 1 := by decide
-- H26.
theorem test_cfgr : answer 0x76000000 State.reset = some (.ok, 0xA968) := by decide
-- R203's example; H30.
theorem test_clrf : (after 0x80000001 { on with evqOvf := true }).evqOvf = false
    ∧ (after 0x80000000 { on with evqOvf := true }).evqOvf = true := by decide
-- H31, R205's example.
theorem test_rdnow : answer 0x90000000 { State.reset with now := 100 } = some (.ok, 100) := by decide
theorem test_rdedge : answer 0x90000001 { State.reset with now := 7, lastEdge := 5 } = some (.ok, 5) := by decide

/-! ## Codec, comparator and tick step -/

/-- The capture's form of an undisturbed echo (95_test_vectors.md, `echo`). -/
def echo (d n : Nat) : List Pulse := (pulsesOf (encodeFrame d n) 417).dropLast ++ [(.idle, 1668)]

-- E1 and R101's example.
theorem test_encode : pulsesOf (encodeFrame 0xA5 8) 417 =
    [(.active, 417), (.idle, 417), (.active, 417), (.idle, 834), (.active, 834), (.idle, 834), (.active, 417),
      (.idle, 417), (.active, 834), (.idle, 834), (.active, 834), (.idle, 1251)] := by decide
-- K1, K2, K5, K7, K10 and K13.
theorem test_classify : ([333, 334, 501, 668, 1001].map (classify CfgFile.reset)) = [.bad, .one, .bad, .two, .bad]
    ∧ classify { CfgFile.reset with tolPct := 33 } 554 = .one := by decide
-- DV1, DV6, DV10 and DV12.
theorem test_decode_frames : decodeBurst CfgFile.reset (echo 0xA5 8) = .frame 0xA5 8
    ∧ decodeBurst CfgFile.reset (pulsesOf (encodeFrame 0x00 8) 417 ++ [(.active, 417), (.idle, 1668)])
        = .err .trailing := by decide
theorem test_decode_errors :
    decodeBurst CfgFile.reset [(.active, 417), (.idle, 417), (.active, 600), (.idle, 1668)] = .err .badDuration
    ∧ decodeBurst CfgFile.reset
        [(.active, 417), (.idle, 417), (.active, 417), (.idle, 417), (.active, 834), (.idle, 1668)]
        = .err .badSymbol := by decide
/-- `on` with 0xA5 of 8 bits pending (the CV vectors). -/
def waitingEcho : State := { on with pending := ⟨true, 0xA5, .b8, 0⟩ }

-- CV2 and IV2.
theorem test_resolve :
    ((resolveResult (.frame 0xA4 8) waitingEcho).evq.map eventWord) = [0x690000A4]
    ∧ ((resolveResult (.frame 0xA4 8) on).evq.map eventWord) = [0x240000A4] := by decide
-- R263.
theorem test_tick_first_edge : (tickStep .active State.reset).line = .active
    ∧ (tickStep .active { State.reset with now := 9 }).lastEdge = 9 := by decide
-- R163: the head of TXQ starts at the tick that completes the gap, its PT the next tick.
theorem test_tick_start : (tickStep .idle { on with txq := [req 0xA5], idleCnt := 13499, now := 20 }).pending
    = ⟨true, 0xA5, .b8, 21⟩ := by decide

/-! ## Witnesses: the premises of the obligations can be met -/

/-- Fast timing that keeps JC1 to JC5. -/
def fast : CfgFile := ⟨1, 0, 3, 3, 3, 4, 56, 2, 1⟩

/-- Enabled with fast timing, armed. -/
def armed : State := { State.reset with cfg := fast, cap := .wait }

/-- Enabled with fast timing, a frame about to be driven. -/
def sending : State := { armed with txseq := .send 0xA5 .b8 0, pending := ⟨true, 0xA5, .b8, 0⟩ }

/-- Enabled with fast timing, the first of BREAK_TICKS = 2 ticks of a break to come. -/
def breaking : State := { armed with cap := .off, txseq := .brk 2 }

/-- An input placed before a state. -/
def offered (x : Input) (s : State) : State := { s with env := { s.env with inputs := [x] } }

theorem invariant_armed : Invariant armed where
  registers := by decide
  joint := by decide
  queues := by decide
  quiet := by decide
  armed := by decide
  sequencer := trivial
  pending := fun h => absurd h (by decide)
  capture := fun _ _ _ h => by cases h
  idleCount := by decide
  delayLine := by decide

theorem invariant_sending : Invariant sending where
  registers := by decide
  joint := by decide
  queues := by decide
  quiet := by decide
  armed := by decide
  sequencer := (by decide : (0xA5#24).toNat < 2 ^ 8 ∧ 0 < (2 * 8 + 4) * 1)
  pending := fun _ => ⟨by decide, by decide, fun _ _ _ h => by cases h; decide⟩
  capture := fun _ _ _ h => by cases h
  idleCount := by decide
  delayLine := by decide

theorem witness_DecodeOfEncode : (Instr.cfgw 8 3).wellFormed = true ∧ (Instr.tx24 0xFFFFFF).wellFormed = true := by
  decide
theorem witness_EncodeOfDecode : decode 0x12FFFFFF = some (.tx24 0xFFFFFF) := by decide
theorem witness_ReservedWordsAnswerIllegal : (offered (.command 0x13000000) on).env.inputs = [.command 0x13000000]
    ∧ decode 0x13000000 = none := by decide
theorem witness_StepRunsDecodedCommand : (offered (.command 0x90000001) on).env.inputs = [.command 0x90000001]
    ∧ decode 0x90000001 = some .rdedge := by decide
theorem witness_StepRunsTick : (offered (.tick true) on).env.inputs = [.tick true]
    ∧ (offered (.tickSense false) on).env.inputs = [.tickSense false] := by decide
theorem witness_ResetTickResets :
    (offered (.resetTick (some 0)) sending).env.inputs = [.resetTick (some 0)] := by decide
theorem witness_NopByRule : (1 : Word).extractLsb' 28 4 = 0#4 ∧ (1 : Word).extractLsb' 0 28 ≠ 0#28 := by decide
-- DISABLED; BAD_ARG at 2^8; FULL with the widest value of 16 bits; queued with 3 requests waiting.
theorem witness_TxRequestByRule : State.reset.en = false ∧ (on.en = true ∧ 2 ^ FrameLen.b8.bits ≤ (0x100#24).toNat)
    ∧ (0xFFFF#24).toNat < 2 ^ FrameLen.b16.bits ∧ ({ on with txq := [req 1, req 2, req 3, req 4] }).txq.length = 4
    ∧ ({ on with txq := [req 1, req 2, req 3] }).txq.length ≠ 4 := by decide
theorem witness_BreakByRule : State.reset.en = false ∧ (sending.en = true ∧ sending.txseq ≠ .idle)
    ∧ waitingEcho.pending.valid = true ∧ on.en = true ∧ on.txseq = .idle ∧ on.pending.valid = false := by decide
theorem witness_EvpopByRule : State.reset.evq = [] ∧ withEvents.evq = .txCompleted .b16 0xFE80 :: [.busFailure false]
    ∧ (0x30000001 : Word).extractLsb' 28 4 = 3#4 ∧ (0x30000001 : Word).extractLsb' 0 28 ≠ 0#28 := by decide
theorem witness_EvflushByRule : (0x48000000 : Word).extractLsb' 28 4 = 4#4
    ∧ (0x48000000 : Word).extractLsb' 0 28 ≠ 0#28 := by decide
theorem witness_StatusWordByRule : (0x50000001 : Word).extractLsb' 28 4 = 5#4
    ∧ (0x50000001 : Word).extractLsb' 0 28 ≠ 0#28 := by decide
-- BUSY; TOL_PCT = 34 and TE_TICKS = 0; TOL_PCT = 33 and BREAK_TICKS = 1.
theorem witness_CfgwTimingByRule : ((7#4).toNat ≤ 7 ∧ on.en = true) ∧ State.reset.en = false
    ∧ ((1#4).toNat = 1 ∧ 33 < (34#24).toNat) ∧ (0#4).toNat ≠ 1
    ∧ (33#24).toNat ≤ 33 ∧ ((7#4).toNat ≠ 1 ∧ (1#24) ≠ 0#24) := by decide
/-- Disabled, with GAP_BWD_TICKS = GAP_FWD_TICKS, which breaks JC4 and no other constraint. -/
def equalGaps : State := { State.reset with cfg := { CfgFile.reset with gapBwdTicks := 9174 } }
-- A reserved bit; an enable under a broken joint constraint.
theorem witness_CtrlWriteRefused : (4#24).extractLsb' 2 22 ≠ 0#22
    ∧ equalGaps.en = false ∧ (1#24).getLsbD 0 = true
    ∧ ¬ (2 * equalGaps.cfg.teTicks.toNat * (100 + equalGaps.cfg.tolPct.toNat)
          < 100 * equalGaps.cfg.longIdleTicks.toNat
        ∧ 2 * equalGaps.cfg.teTicks.toNat * (100 + equalGaps.cfg.tolPct.toNat)
          < 100 * equalGaps.cfg.busFailTicks.toNat
        ∧ equalGaps.cfg.longIdleTicks.toNat ≤ equalGaps.cfg.gapFwdTicks.toNat
        ∧ equalGaps.cfg.gapFwdTicks.toNat < equalGaps.cfg.gapBwdTicks.toNat
        ∧ 52 * equalGaps.cfg.teTicks.toNat + equalGaps.cfg.longIdleTicks.toNat
          < equalGaps.cfg.echoTimeoutTicks.toNat) := by decide
theorem witness_EnableByRule : State.reset.en = false ∧ (3#24).getLsbD 0 = true ∧ (3#24).extractLsb' 2 22 = 0#22
    ∧ 2 * CfgFile.reset.teTicks.toNat * (100 + CfgFile.reset.tolPct.toNat) < 100 * CfgFile.reset.longIdleTicks.toNat
    ∧ 2 * CfgFile.reset.teTicks.toNat * (100 + CfgFile.reset.tolPct.toNat) < 100 * CfgFile.reset.busFailTicks.toNat
    ∧ CfgFile.reset.longIdleTicks.toNat ≤ CfgFile.reset.gapFwdTicks.toNat
    ∧ CfgFile.reset.gapFwdTicks.toNat < CfgFile.reset.gapBwdTicks.toNat
    ∧ 52 * CfgFile.reset.teTicks.toNat + CfgFile.reset.longIdleTicks.toNat
        < CfgFile.reset.echoTimeoutTicks.toNat := by decide
theorem witness_DisableByRule : sending.en = true ∧ (2#24).getLsbD 0 = false ∧ (2#24).extractLsb' 2 22 = 0#22 := by
  decide
theorem witness_CtrlWriteKeepingEn : (3#24).getLsbD 0 = on.en ∧ (3#24).extractLsb' 2 22 = 0#22
    ∧ (0#24).getLsbD 0 = State.reset.en := by decide
-- Both boundary indices, and words of each ILLEGAL kind.
theorem witness_CfgrByRule : Invariant armed ∧ (8#4).toNat ≤ 8 ∧ 9 ≤ (9#4).toNat ∧ 9 ≤ (15#4).toNat
    ∧ (0x79000000 : Word).extractLsb' 28 4 = 7#4 ∧ 9 ≤ ((0x79000000 : Word).extractLsb' 24 4).toNat
    ∧ (0x70000001 : Word).extractLsb' 28 4 = 7#4 ∧ (0x70000001 : Word).extractLsb' 0 24 ≠ 0#24
    ∧ (0x69000000 : Word).extractLsb' 28 4 = 6#4 ∧ 9 ≤ ((0x69000000 : Word).extractLsb' 24 4).toNat :=
  ⟨invariant_armed, by decide⟩
theorem witness_ClrfByRule : (0x80000002 : Word).extractLsb' 28 4 = 8#4
    ∧ (0x80000002 : Word).extractLsb' 1 27 ≠ 0#27 := by decide
theorem witness_TimestampReadsByRule : (0x98000000 : Word).extractLsb' 28 4 = 9#4
    ∧ (0x98000000 : Word).extractLsb' 1 27 ≠ 0#27 := by decide
theorem witness_RefusedCommandChangesNothing :
    commandStep 0x10000001 State.reset = .next { State.reset with rspStatus := .disabled }
    ∧ ({ State.reset with rspStatus := .disabled }).rspStatus ≠ .ok := ⟨rfl, by decide⟩
-- One command of each of R211's lists, in the mode the list is about.
theorem witness_ResponsesByEnable : State.reset.en = false ∧ on.en = true
    ∧ Instr.status ∈ ([.nop, .evpop, .evflush, .status, .rdnow, .rdedge] : List Instr)
    ∧ (8#4).toNat ≤ 8 ∧ (7#4).toNat ≤ 7 := by decide
theorem witness_CommandsKeepLineMonitor : exec .evpop withEvents =
    .next { withEvents with evq := [.busFailure false], rspData := 0x4100FE80 } := rfl
theorem witness_ReadOnlyCommandsIdempotent :
    exec .rdnow { on with now := 5 } = .next { on with now := 5, rspData := 5 }
    ∧ exec (.cfgr 8) on = .next { on with rspData := 1 } := ⟨rfl, rfl⟩
-- Two states that differ in what R44 hides only.
theorem witness_ResponsesHideInternals :
    let s := { sending with cap := .run [] .active 1 }
    let s' := { sending with cap := .run [⟨.active, 2⟩] .idle 2, txseq := .send 1 .b16 7, pending := ⟨true, 1, .b16, 9⟩ }
    s ≠ s' ∧ s.capRun = s'.capRun ∧ s.txBusy = s'.txBusy ∧ s.breakActive = s'.breakActive
      ∧ s.pending.valid = s'.pending.valid ∧ exec .status s = .next { s with rspData := 0x4B }
      ∧ exec .status s' = .next { s' with rspData := 0x4B } := ⟨by decide, rfl, rfl, rfl, rfl, rfl, rfl⟩
theorem witness_FrameRoundTrip : RegistersLegal fast ∧ jointOk fast = true ∧ 0xFF < 2 ^ FrameLen.b8.bits := by decide
theorem witness_BadPulseNeverValidFrame :
    let burst : List Pulse := [(.active, 417), (.idle, 600), (.active, 417), (.idle, 1668)]
    (.idle, 600) ∈ bodyOf CfgFile.reset burst ∧ classify CfgFile.reset 600 = .bad
      ∧ ∀ p ∈ burst.head?, ¬ (p.1 = .active ∧ CfgFile.reset.busFailTicks.toNat ≤ p.2) := by decide
theorem witness_TruncationKeepsResult :
    let burst : List Pulse := (List.replicate 80 ((.active, 2) : Pulse)) ++ [(.idle, 3)]
    80 < burst.length ∧ ∀ p ∈ burst.dropLast, p.2 < burstLimit fast p.1 := by decide
theorem witness_ToleranceBandsDisjoint : (1 : Int) ≤ fast.teTicks.toNat ∧ (fast.tolPct.toNat : Int) = 0
    ∧ (({ fast with tolPct := 33 }).tolPct.toNat : Int) ≤ 33 := by decide
theorem witness_DecodeBoundsAndEmptyBursts : fast.busFailTicks.toNat ≤ 3 ∧ fast.longIdleTicks.toNat ≤ 3
    ∧ decodeBurst CfgFile.reset (echo 0xA5 8) = .frame 0xA5 8 := by decide
theorem witness_DecodeOutcomeByNextPosition : 0xA5 < 2 ^ 8 ∧ 8 < 32 ∧ 2 ^ 32 - 1 < 2 ^ 32 := by decide

-- The first pulse one tick short of a bus failure, an idle one tick short of a long one, and the shortest long idle.
theorem witness_BurstReadAsHalfBits :
    let body : List Pulse := [(.active, 499999), (.idle, 1667), (.active, 500)]
    body ≠ [] ∧ (∀ p ∈ body.head?, ¬ (p.1 = .active ∧ CfgFile.reset.busFailTicks.toNat ≤ p.2))
      ∧ (∀ p ∈ body, ¬ (p.1 = .idle ∧ CfgFile.reset.longIdleTicks.toNat ≤ p.2))
      ∧ CfgFile.reset.longIdleTicks.toNat ≤ 1668 ∧ ∀ p ∈ body.getLast?, p.1 = .active := by decide

/-- Bursts that decode to each result under the reset timing, for the comparator's clauses. -/
def bursts : List (List CapPulse) :=
  [[⟨.active, 500000⟩], [⟨.idle, 1668⟩], [⟨.active, 834⟩, ⟨.idle, 1668⟩], [⟨.active, 417⟩, ⟨.idle, 1668⟩],
    (echo 0xA4 8).map (fun p => ⟨p.1, BitVec.ofNat 24 p.2⟩), (echo 0xA5 8).map (fun p => ⟨p.1, BitVec.ofNat 24 p.2⟩),
    (echo 0xFE80 16).map (fun p => ⟨p.1, BitVec.ofNat 24 p.2⟩),
    (echo 0xA1B2C3 24).map (fun p => ⟨p.1, BitVec.ofNat 24 p.2⟩)]

theorem witness_ResolvePendingByRule : waitingEcho.pending.valid = true
    ∧ bursts.map (fun b => decodeBurst waitingEcho.cfg (b.map CapPulse.pulse)) =
      [.busFail, .noFrame, .err .noStart, .frame 0 0, .frame 0xA4 8, .frame 0xA5 8, .frame 0xFE80 16,
        .frame 0xA1B2C3 24] := by decide
theorem witness_ResolveIdleByRule : on.pending.valid = false
    ∧ bursts.map (fun b => decodeBurst on.cfg (b.map CapPulse.pulse)) =
      [.busFail, .noFrame, .err .noStart, .frame 0 0, .frame 0xA4 8, .frame 0xA5 8, .frame 0xFE80 16,
        .frame 0xA1B2C3 24] := by decide
theorem witness_CollisionLaw : waitingEcho.pending.valid = true ∧ waitingEcho.evq.length < 16
    ∧ (resolve (bursts.getD 5 []) waitingEcho).evq = waitingEcho.evq ++ [.txCompleted .b8 0xA5] := by decide
/-- Sixteen events. -/
def fullEvq : List Event := List.replicate 16 (.busFailure false)
theorem witness_OneEventPerTick : (fullEvq.take 15).length < 16 ∧ 16 ≤ fullEvq.length := by decide
-- Each way a run can go on: longer, at the threshold of its level, and into the other level.
theorem witness_CaptureByRule : (∀ r, armed.txseq ≠ .brk r) ∧ State.reset.cap = .off ∧ on.cap = .wait
    ∧ ({ armed with cap := .run [] .active 2 }).cap = .run [] .active 2
    ∧ (3#24).toNat = min ((2#24).toNat + 1) (2 ^ 24 - 1) ∧ armed.cfg.busFailTicks.toNat ≤ (3#24).toNat
    ∧ (1#24).toNat < armed.cfg.longIdleTicks.toNat ∧ armed.cfg.longIdleTicks.toNat ≤ (3#24).toNat :=
  ⟨fun _ h => TxSeq.noConfusion h, by decide⟩
/-- The tick before the echo timer of `sending` fires, nothing being captured. -/
def expiring : State := { sending with txseq := .idle, now := 56 }
/-- `expiring` with a burst that the same tick ends, if idle. -/
def endingBurst : State := { expiring with cap := .run [⟨.active, 1⟩] .idle 2 }
-- The echo timer's phase one tick short of the timeout, and at it; in a tick, a burst that ends (R159), none, and none
-- one tick short of the timeout.
theorem witness_EchoTimerByRule : sending.pending.valid = true ∧ armed.pending.valid = false
    ∧ expiring.cfg.echoTimeoutTicks.toNat
        ≤ (expiring.now.toNat + 2 ^ 32 - expiring.pending.start.toNat) % 2 ^ 32
    ∧ (({ expiring with now := 55 }).now.toNat + 2 ^ 32 - expiring.pending.start.toNat) % 2 ^ 32
        < expiring.cfg.echoTimeoutTicks.toNat
    ∧ endingBurst.cap = .run [⟨.active, 1⟩] .idle 2 ∧ endingBurst.cfg.longIdleTicks.toNat ≤ (3#24).toNat
    ∧ (3#24).toNat = min ((2#24).toNat + 1) (2 ^ 24 - 1)
    ∧ (tickStep .idle endingBurst).evq = [.collisionDetected (.lenMismatch 0)]
    ∧ expiring.cap = .wait := by decide
theorem witness_SequencerByRule : sending.txseq = .send 0xA5 .b8 0
    ∧ 0 + 1 ≠ (2 * FrameLen.b8.bits + 4) * sending.cfg.teTicks.toNat
    ∧ 19 + 1 = (2 * FrameLen.b8.bits + 4) * sending.cfg.teTicks.toNat
    ∧ ({ breaking with txseq := .brk 1 }).txseq = .brk 1 ∧ breaking.txseq = .brk (0 + 2) ∧ armed.txseq = .idle := by
  decide
-- A request that may start at the gap exactly, and one that may not, one tick short of it.
theorem witness_TxStartByRule :
    let s := { armed with txq := [req 0xA5], idleCnt := 4 }
    s.txq = req 0xA5 :: [] ∧ s.en = true ∧ s.txseq = .idle ∧ s.pending.valid = false ∧ s.cap = .wait ∧ s.line = .idle
      ∧ (if s.lastKind = .fwd then s.cfg.gapFwdTicks.toNat else s.cfg.gapBwdTicks.toNat) ≤ s.idleCnt.toNat
      ∧ ({ s with idleCnt := 3 }).idleCnt.toNat
        < (if s.lastKind = .fwd then s.cfg.gapFwdTicks.toNat else s.cfg.gapBwdTicks.toNat) := by decide
-- A start at the gap exactly, by the tick and by the run, and a wait of the whole gap from IDLE_CNT = 0.
theorem witness_TransmitOnlyAfterSettleTime :
    let s := { armed with txq := [req 0xA5], idleCnt := 3 }
    let u := sequencerPhase (echoPhase (capturePhase .idle (monitorPhase .idle (drivePhase s))))
    (tickStep .idle s).txq ≠ s.txq ∧ s.en = true ∧ s.txq = req 0xA5 :: [] ∧ u.txseq = .idle
      ∧ u.pending.valid = false ∧ u.cap = .wait
      ∧ (if u.lastKind = .fwd then s.cfg.gapFwdTicks.toNat else s.cfg.gapBwdTicks.toNat) ≤ u.idleCnt.toNat
      ∧ s.txseq = .idle ∧ s.pending.valid = false ∧ s.cap = .wait
      ∧ max 1 (s.cfg.gapBwdTicks.toNat - ({ s with idleCnt := 0 }).idleCnt.toNat) = 4 := by decide
theorem witness_OwnEchoNeverReceived : expiring.pending.valid = true
    ∧ (tickStep .idle expiring).evq = expiring.evq ++ [.collisionDetected .echoTimeout] := by decide
theorem witness_PendingEndsWithOneOutcome : expiring.pending.valid = true
    ∧ (tickStep .idle expiring).pending ≠ expiring.pending ∧ expiring.evq.length < 16
    ∧ (tickStep .idle { expiring with evq := fullEvq }).pending ≠ expiring.pending ∧ 16 ≤ fullEvq.length := by decide
theorem witness_KindKnownOnlyFromValidFrame : ({ expiring with lastKind := .fwd }).evq.length < 16
    ∧ (tickStep .idle { expiring with lastKind := .fwd }).lastKind ≠ .fwd := by decide
theorem witness_DisabledBlockIsQuiet : QuietWhenDisabled State.reset ∧ State.reset.en = false := by decide
/-- `withEvents` with the interrupt enabled and one event queued. -/
def interrupting : State := { on with cfg := { on.cfg with ctrl := 3 }, evq := [.busFailure false] }
theorem witness_IrqClearedOnlyByHost : interrupting.irq = true
    ∧ exec (.cfgw 8 1) interrupting = .next { interrupting with cfg := { on.cfg with ctrl := 1 } }
    ∧ ({ interrupting with cfg := { on.cfg with ctrl := 1 } }).irq = false := ⟨by decide, rfl, by decide⟩
-- One tick short of the break's end, and the whole break.
theorem witness_BreakDrivesExactly : breaking.txseq = .brk 2 ∧ breaking.cap = .off ∧ breaking.pending.valid = false
    ∧ ([.idle] : List Level).length < 2 ∧ ([.idle, .active] : List Level).length = 2 := by decide
theorem witness_StuckLineReportedPeriodically : Invariant armed ∧ armed.en = true ∧ armed.cap = .wait
    ∧ armed.pending.valid = false ∧ armed.evq.length + 16 ≤ 16 :=
  ⟨invariant_armed, by decide⟩
theorem witness_OutcomeWithinEchoTimeout : Invariant sending ∧ sending.pending.valid = true
    ∧ (List.replicate 57 Level.idle).length
      = sending.cfg.echoTimeoutTicks.toNat + 1 - (sending.now - sending.pending.start).toNat :=
  ⟨invariant_sending, by decide⟩
theorem witness_UndisturbedTransmission : Invariant sending ∧ sending.en = true ∧ sending.env.loopDelay = 0
    ∧ sending.txseq = .send 0xA5 .b8 0 ∧ sending.pending.valid = true ∧ sending.cap = .wait
    ∧ sending.evq.length < 16 :=
  ⟨invariant_sending, by decide⟩
theorem witness_InvariantKeptByStep : Invariant (offered (.command 0x100000A5) armed)
    ∧ step (offered (.command 0x100000A5) armed)
      = .next { armed with txq := [req 0xA5], rspStatus := .ok, rspData := 1 } :=
  ⟨⟨invariant_armed.registers, invariant_armed.joint, invariant_armed.queues, invariant_armed.quiet,
    invariant_armed.armed, invariant_armed.sequencer, invariant_armed.pending, invariant_armed.capture,
    invariant_armed.idleCount, invariant_armed.delayLine⟩, rfl⟩

end Sys2Proof.Tests
end

section
/-! PROOFS. The invariant of Safety.lean, one operation of the model at a time, up to the step of the machine. -/

namespace Sys2Proof.Machine

/-! ### The parts of the invariant under the operations of the configuration file -/

/-- A legal write of a timing register leaves every register in its range (R22, R200). -/
theorem registersLegal_write {c : CfgFile} {r : CfgReg} {v : Reg24} (h : RegistersLegal c)
    (hr : r ≠ .ctrl) (hv : timingValueLegal r v = true) : RegistersLegal (c.write r v) := by
  obtain ⟨hte, htol, hlong, hbus, hfwd, hbwd, hecho, hbrk, hctrl⟩ := h
  have pos : (v != 0#24) = true → 1 ≤ v.toNat := by
    simp only [bne_iff_ne, ne_eq]; bv_omega
  cases r with
  | teTicks => exact ⟨pos hv, htol, hlong, hbus, hfwd, hbwd, hecho, hbrk, hctrl⟩
  | tolPct => exact ⟨hte, of_decide_eq_true hv, hlong, hbus, hfwd, hbwd, hecho, hbrk, hctrl⟩
  | longIdleTicks => exact ⟨hte, htol, pos hv, hbus, hfwd, hbwd, hecho, hbrk, hctrl⟩
  | busFailTicks => exact ⟨hte, htol, hlong, pos hv, hfwd, hbwd, hecho, hbrk, hctrl⟩
  | gapFwdTicks => exact ⟨hte, htol, hlong, hbus, pos hv, hbwd, hecho, hbrk, hctrl⟩
  | gapBwdTicks => exact ⟨hte, htol, hlong, hbus, hfwd, pos hv, hecho, hbrk, hctrl⟩
  | echoTimeoutTicks => exact ⟨hte, htol, hlong, hbus, hfwd, hbwd, pos hv, hbrk, hctrl⟩
  | breakTicks => exact ⟨hte, htol, hlong, hbus, hfwd, hbwd, hecho, pos hv, hctrl⟩
  | ctrl => exact absurd rfl hr

/-- A value of CTRL without reserved bits leaves every register in its range (R30, R201). -/
theorem registersLegal_setCtrl {c : CfgFile} {v : Reg24} (h : RegistersLegal c)
    (hv : ctrlReserved v = 0#22) : RegistersLegal { c with ctrl := v } := by
  obtain ⟨hte, htol, hlong, hbus, hfwd, hbwd, hecho, hbrk, -⟩ := h
  exact ⟨hte, htol, hlong, hbus, hfwd, hbwd, hecho, hbrk, hv⟩

theorem write_ctrl_of_ne (c : CfgFile) {r : CfgReg} (v : Reg24) (hr : r ≠ .ctrl) :
    (c.write r v).ctrl = c.ctrl := by
  cases r with
  | ctrl => exact absurd rfl hr
  | _ => rfl

/-- A disabled block needs no more than its registers, its event queue, the line monitor and the environment in order:
the other parts of the invariant are about what disabling has taken away (R208). -/
theorem invariant_of_disabled {s : State} (hen : s.en = false) (hreg : RegistersLegal s.cfg)
    (hquiet : s.txseq = .idle ∧ s.cap = .off ∧ s.pending.valid = false ∧ s.txq = [])
    (hevq : s.evq.length ≤ Config.evqDepth) (hidle : IdleCountFresh s) (hdelay : DelayLineBounded s) :
    Invariant s := by
  obtain ⟨hseq, hcap, hpv, htxq⟩ := hquiet
  exact
    { registers := hreg
      joint := by simp [JointWhenEnabled, hen]
      queues := ⟨by simp [htxq], hevq, by simp [htxq]⟩
      quiet := fun _ => ⟨hseq, hcap, hpv, htxq⟩
      armed := by simp [ArmedUnlessBreak, hen]
      sequencer := by simp [SequencerBounded, hseq]
      pending := by simp [PendingInStep, hpv]
      capture := by simp [CaptureWellFormed, hcap]
      idleCount := hidle
      delayLine := hdelay }

/-- What is driven, pending, captured or queued shows that the block is enabled (R208). -/
theorem en_of_not_quiet {s : State} (h : Invariant s)
    (hs : ¬(s.txseq = .idle ∧ s.cap = .off ∧ s.pending.valid = false ∧ s.txq = [])) : s.en = true := by
  cases hen : s.en
  · exact absurd (h.quiet hen) hs
  · rfl

/-! ### Responses, events and the descriptor -/

theorem invariant_respond {s : State} (st : Status) (d : Word) (h : Invariant s) : Invariant (respond st d s) :=
  { h with }

theorem invariant_raise {s : State} (st : Status) (h : Invariant s) : Invariant (raise st s) :=
  invariant_respond st 0 h

theorem invariant_setKind {s : State} (k : Kind) (h : Invariant s) : Invariant (setKind k s) :=
  { h with }

theorem invariant_emit {s : State} (ev : Event) (h : Invariant s) : Invariant (emit ev s) := by
  obtain ⟨htxq, hevq, hfit⟩ := h.queues
  obtain ⟨hroom, e⟩ | ⟨-, e⟩ := emit_cases ev s <;> rw [e]
  · exact { h with queues := ⟨htxq, by simpa using hroom, hfit⟩ }
  · exact { h with }

theorem invariant_emitUnknown {s : State} (ev : Event) (h : Invariant s) : Invariant (emitUnknown ev s) :=
  invariant_setKind .unknown (invariant_emit ev h)

theorem sequencerBounded_closePending {s : State} (h : SequencerBounded s) :
    SequencerBounded (closePending s) := by
  unfold SequencerBounded at h ⊢
  cases hseq : s.txseq with
  | idle => simp [hseq]
  | send d n k => simpa [hseq] using h
  | brk r =>
    simp only [hseq] at h
    obtain ⟨hpos, hle, -⟩ := h
    simpa [hseq] using ⟨hpos, hle⟩

theorem invariant_closePending {s : State} (h : Invariant s) : Invariant (closePending s) :=
  { h with
    quiet := fun hen =>
      have ⟨hseq, hcap, _, htxq⟩ := h.quiet hen
      ⟨hseq, hcap, rfl, htxq⟩
    sequencer := sequencerBounded_closePending h.sequencer
    pending := by simp [PendingInStep] }

/-- Stopping a frame leaves a break as it is, and an idle sequencer idle (R131). -/
theorem invariant_stopSending {s : State} (h : Invariant s) : Invariant (stopSending s) := by
  cases hseq : s.txseq with
  | send d n k =>
    have e : stopSending s = { s with txseq := .idle } := by simp [stopSending, hseq, TxSeq.stopSend]
    have hen : s.en = true := en_of_not_quiet h (by simp [hseq])
    rw [e]
    exact { h with
      quiet := fun hen' => absurd (hen.symm.trans hen') (by decide)
      armed := by simpa [ArmedUnlessBreak, State.breakActive, State.en, hseq] using h.armed
      sequencer := trivial
      pending := fun hpv =>
        have ⟨hfit, htime, _⟩ := h.pending hpv
        ⟨hfit, htime, fun _ _ _ => by simp⟩ }
  | idle | brk =>
    have e : s.txseq.stopSend = s.txseq := by rw [hseq]; rfl
    rw [stopSending, e]
    exact h

/-! ### Resolve -/

theorem invariant_collide {s : State} (r : CollisionReason) (h : Invariant s) : Invariant (collide r s) :=
  invariant_closePending (invariant_emitUnknown _ h)

theorem invariant_resolveEcho {s : State} (v n : Nat) (h : Invariant s) : Invariant (resolveEcho v n s) := by
  unfold resolveEcho
  split
  · exact invariant_collide _ h
  · split
    · exact invariant_collide _ h
    · exact invariant_closePending (invariant_setKind _ (invariant_emit _ h))

theorem invariant_resolvePending {s : State} (r : DecodeResult) (h : Invariant s) :
    Invariant (resolvePending r s) := by
  cases r with
  | noFrame => exact invariant_collide _ h
  | busFail => exact invariant_stopSending (invariant_closePending (invariant_emitUnknown _ h))
  | err e => exact invariant_collide _ h
  | frame v n => exact invariant_resolveEcho v n h

theorem invariant_receiveFrame {s : State} (v n : Nat) (h : Invariant s) : Invariant (receiveFrame v n s) := by
  unfold receiveFrame
  split
  · exact invariant_setKind _ (invariant_emit _ h)
  · exact invariant_emitUnknown _ h

theorem invariant_resolveIdle {s : State} (r : DecodeResult) (h : Invariant s) : Invariant (resolveIdle r s) := by
  cases r with
  | noFrame => exact h
  | busFail => exact invariant_emitUnknown _ h
  | err e => exact invariant_emitUnknown _ h
  | frame v n => exact invariant_receiveFrame v n h

theorem invariant_resolve {s : State} (b : List CapPulse) (h : Invariant s) : Invariant (resolve b s) := by
  unfold resolve resolveResult
  split
  · exact invariant_resolvePending _ h
  · exact invariant_resolveIdle _ h

/-! ### Bursts -/

/-- A list of alternating pulses goes on alternating after a pulse of another level than its last one's. -/
theorem alternating_append {p : List CapPulse} {a : CapPulse} (h : Alternating p)
    (ha : ∀ x ∈ p.getLast?, x.level ≠ a.level) : Alternating (p ++ [a]) := by
  induction p with
  | nil => trivial
  | cons x rest ih =>
    cases rest with
    | nil => exact ⟨ha x (by simp), trivial⟩
    | cons y rest =>
      obtain ⟨hxy, hrest⟩ := h
      exact ⟨hxy, ih hrest (by simpa using ha)⟩

/-- The first tick of a burst (R154). -/
theorem burstInProgress_first (c : CfgFile) (h : 1 < burstLimit c .active) : BurstInProgress c [] .active 1 :=
  ⟨by simp, by simp, ⟨by decide, h⟩, trivial, by simp, fun _ => rfl, by simp⟩

/-- A run that goes on below its threshold (R156, R157). -/
theorem burstInProgress_grow {c : CfgFile} {p : List CapPulse} {l : Level} {n : Reg24}
    (h : BurstInProgress c p l n) (hn : (sat24 (n.toNat + 1)).toNat < burstLimit c l) :
    BurstInProgress c p l (sat24 (n.toNat + 1)) := by
  obtain ⟨hlen, hdur, -, halt, hhead, hnil, hlast⟩ := h
  exact ⟨hlen, hdur, ⟨by rw [sat24_toNat]; omega, hn⟩, halt, hhead, hnil, hlast⟩

/-- A run that the line's change ends becomes the burst's last pulse, unless 80 are stored (R155, R158). -/
theorem burstInProgress_turn {c : CfgFile} {p : List CapPulse} {l lv : Level} {n : Reg24}
    (h : BurstInProgress c p lv n) (hl : l ≠ lv) (hlim : 1 < burstLimit c l) :
    BurstInProgress c (push80 p ⟨lv, n⟩) l 1 := by
  obtain ⟨hlen, hdur, hrun, halt, hhead, hnil, hlast⟩ := h
  unfold push80
  split
  · next hroom =>
    refine ⟨by simpa using hroom, ?_, ⟨by decide, hlim⟩, alternating_append halt (hlast hroom), ?_, by simp, ?_⟩
    · simp only [List.forall_mem_append, List.forall_mem_singleton]
      exact ⟨hdur, hrun⟩
    · cases p with
      | nil => simpa using hnil rfl
      | cons x rest => simpa using hhead
    · simpa using fun _ => hl.symm
  · next hfull =>
    refine ⟨hlen, hdur, ⟨by decide, hlim⟩, halt, hhead, ?_, fun hroom => absurd hroom hfull⟩
    rintro rfl
    exact absurd (by decide) hfull

/-- While the block is enabled one tick of a level never ends a burst (R206). -/
theorem one_lt_burstLimit {s : State} (h : Invariant s) (hen : s.en = true) (l : Level) :
    1 < burstLimit s.cfg l := by
  have hlim := two_te_lt_burstLimit s.cfg (h.joint hen) l
  have hte : 1 ≤ s.cfg.teTicks.toNat := h.registers.1
  omega

/-! ### Phases 1 to 5 of a tick -/

theorem invariant_envTick {s : State} (drv : Bool) (h : Invariant s) : Invariant (envTick drv s) :=
  { h with delayLine := by simp [DelayLineBounded, envTick, recordDrive] }

theorem invariant_drivePhase {s : State} (h : Invariant s) : Invariant (drivePhase s) :=
  { h with }

theorem invariant_monitorPhase {s : State} (l : Level) (h : Invariant s) : Invariant (monitorPhase l s) :=
  { h with idleCount := by simp only [IdleCountFresh, monitorPhase_line]; rintro rfl; rfl }

/-- An enabled block with nothing but CAP changed keeps the invariant when CAP is as armed as it was and holds a
well-formed burst or none. -/
theorem invariant_setCap {s : State} {c : Cap} (h : Invariant s) (hs : s.cap ≠ .off) (hc : c ≠ .off)
    (hburst : ∀ p l n, c = .run p l n → BurstInProgress s.cfg p l n) : Invariant { s with cap := c } :=
  have hen : s.en = true := en_of_not_quiet h (by simp [hs])
  { h with
    quiet := fun hen' => absurd (hen.symm.trans hen') (by decide)
    armed := fun hen' => (iff_of_false hc hs).trans (h.armed hen')
    capture := hburst }

theorem invariant_capturePhase {s : State} (l : Level) (h : Invariant s) : Invariant (capturePhase l s) := by
  obtain ⟨-, e⟩ | ⟨hcap, -, e⟩ | ⟨p, lv, n, p', n', hcap, hnext, ⟨hlt, e⟩ | ⟨-, e⟩⟩ := capturePhase_cases l s <;> rw [e]
  · exact h
  · have hon : s.cap ≠ .off := by simp [hcap]
    refine invariant_setCap h hon (by simp) ?_
    rintro _ _ _ ⟨⟩
    exact burstInProgress_first s.cfg (one_lt_burstLimit h (en_of_not_quiet h (by simp [hon])) .active)
  · have hon : s.cap ≠ .off := by simp [hcap]
    refine invariant_setCap h hon (by simp) ?_
    rintro _ _ _ ⟨⟩
    obtain ⟨rfl, rfl, rfl⟩ | ⟨hl, rfl, rfl⟩ := hnext
    · exact burstInProgress_grow (h.capture _ _ _ hcap) hlt
    · exact burstInProgress_turn (h.capture _ _ _ hcap) hl hlt
  · exact invariant_resolve _ (invariant_setCap h (by simp [hcap]) (by simp) (by simp))

theorem invariant_echoPhase {s : State} (h : Invariant s) : Invariant (echoPhase s) := by
  unfold echoPhase
  split
  · exact invariant_collide _ h
  · exact h

/-- After phase 5 nothing is pending whose timer has run out (R159). -/
theorem echoExpired_echoPhase (s : State) : echoExpired (echoPhase s) = false := by
  obtain ⟨hx, e⟩ | ⟨-, -, e⟩ := echoPhase_cases s
  · rw [e, hx]
  · simp [e, echoExpired]

/-! ### Phases 6 to 8 of a tick

`SEND`'s K and the echo timer's NOW advance in two different phases (R160, R164), so phases 6 and 7 are taken together
with the clock that follows them. -/

/-- A frame being sent after phase 6 is the one sent before it, one tick further on (R160). -/
theorem sequencerPhase_send {s : State} {d : Reg24} {n : FrameLen} {k : Nat}
    (h : (sequencerPhase s).txseq = .send d n k) : ∃ k', s.txseq = .send d n k' ∧ k = k' + 1 := by
  obtain ⟨hseq, e⟩ | ⟨d', n', k', hseq, ⟨-, e⟩ | ⟨-, e⟩⟩ | ⟨r, -, ⟨-, e⟩ | ⟨-, e⟩⟩ := sequencerPhase_cases s
  · simp [e, hseq] at h
  · simp [e] at h
  · simp only [e, TxSeq.send.injEq] at h
    obtain ⟨rfl, rfl, rfl⟩ := h
    exact ⟨k', hseq, rfl⟩
  · simp [e] at h
  · simp [e] at h

/-- One tick on, the echo timer of an outcome still pending has moved by one and has not passed the timeout (R159). -/
theorem elapsed_succ {s : State} (hpv : s.pending.valid = true) (hx : echoExpired s = false) :
    (s.now + 1 - s.pending.start).toNat = (s.now - s.pending.start).toNat + 1
      ∧ (s.now - s.pending.start).toNat + 1 ≤ s.cfg.echoTimeoutTicks.toNat := by
  have hlt : (s.now - s.pending.start).toNat < s.cfg.echoTimeoutTicks.toNat := by
    simpa [echoExpired, hpv] using hx
  have hmax := s.cfg.echoTimeoutTicks.isLt
  refine ⟨?_, hlt⟩
  bv_omega

theorem pendingInStep_clock_sequencerPhase {s : State} (h : PendingInStep s) (hx : echoExpired s = false) :
    PendingInStep (clockPhase (sequencerPhase s)) := by
  intro hpv
  simp only [clockPhase_pending, sequencerPhase_pending] at hpv
  obtain ⟨hfit, -, hsend⟩ := h hpv
  obtain ⟨hsucc, hle⟩ := elapsed_succ hpv hx
  simp only [clockPhase_pending, sequencerPhase_pending, clockPhase_now, sequencerPhase_now, clockPhase_cfg,
    sequencerPhase_cfg, clockPhase_txseq, hsucc]
  refine ⟨hfit, hle, fun d n k hk => ?_⟩
  obtain ⟨k', hseq, rfl⟩ := sequencerPhase_send hk
  obtain ⟨rfl, rfl, rfl⟩ := hsend _ _ _ hseq
  exact ⟨rfl, rfl, rfl⟩

theorem invariant_clock_sequencerPhase {s : State} (h : Invariant s) (hx : echoExpired s = false) :
    Invariant (clockPhase (sequencerPhase s)) := by
  have hpend := pendingInStep_clock_sequencerPhase h.pending hx
  have hbound : SequencerBounded s := h.sequencer
  have enabled : s.txseq ≠ .idle → ¬ s.en = false := fun hseq => by
    simp [en_of_not_quiet h fun hq => hseq hq.1]
  unfold SequencerBounded at hbound
  obtain ⟨-, e⟩ | ⟨d, n, k, hseq, ⟨-, e⟩ | ⟨hk, e⟩⟩ | ⟨r, hseq, ⟨-, e⟩ | ⟨hr, e⟩⟩ := sequencerPhase_cases s <;>
    rw [e] at hpend ⊢
  · exact { h with pending := hpend }
  · exact { h with
      quiet := fun hen => absurd hen (enabled (by simp [hseq]))
      armed := by simpa [ArmedUnlessBreak, State.breakActive, State.en, hseq] using h.armed
      sequencer := trivial
      pending := hpend }
  · simp only [hseq] at hbound
    obtain ⟨hfit, hlt⟩ := hbound
    exact { h with
      quiet := fun hen => absurd hen (enabled (by simp [hseq]))
      armed := by simpa [ArmedUnlessBreak, State.breakActive, State.en, hseq] using h.armed
      sequencer := ⟨hfit, Nat.lt_of_le_of_ne hlt hk⟩
      pending := hpend }
  · exact { h with
      quiet := fun hen => absurd hen (enabled (by simp [hseq]))
      armed := by simp [ArmedUnlessBreak, State.breakActive]
      sequencer := trivial
      pending := hpend
      capture := by simp [CaptureWellFormed] }
  · simp only [hseq] at hbound
    obtain ⟨hpos, hle, hpv⟩ := hbound
    exact { h with
      quiet := fun hen => absurd hen (enabled (by simp [hseq]))
      armed := by simpa [ArmedUnlessBreak, State.breakActive, State.en, hseq] using h.armed
      sequencer := ⟨by omega, by simp only [clockPhase_cfg]; omega, hpv⟩
      pending := hpend }

/-- The start of a request, whose PT is the tick after this one (R163). -/
theorem invariant_clock_startPhase {s : State} (h : Invariant (clockPhase s)) :
    Invariant (clockPhase (startPhase s)) := by
  obtain ⟨-, e⟩ | ⟨r, rest, hq, hmay, e⟩ := startPhase_cases s <;> rw [e]
  · exact h
  · obtain ⟨hen, -, -, hcap, -, -⟩ := (mayStart_iff s).1 hmay
    obtain ⟨htxq, hevq, hfit⟩ := h.queues
    simp only [clockPhase_txq, hq, List.forall_mem_cons, List.length_cons] at htxq hfit
    obtain ⟨hfitr, hfitrest⟩ := hfit
    have hte : 1 ≤ s.cfg.teTicks.toNat := h.registers.1
    exact { h with
      queues := ⟨by simp only [clockPhase_txq, startRequest_txq]; omega, hevq, hfitrest⟩
      quiet := fun hen' => absurd (hen.symm.trans hen') (by decide)
      armed := by simp [ArmedUnlessBreak, State.breakActive, hcap]
      sequencer := ⟨hfitr, Nat.mul_pos (by omega) hte⟩
      pending := fun _ => ⟨hfitr, by simp, by simp +contextual⟩ }

/-! ### The tick step -/

theorem invariant_tickStep {s : State} (l : Level) (h : Invariant s) : Invariant (tickStep l s) :=
  have recorded := invariant_capturePhase l (invariant_monitorPhase l (invariant_drivePhase h))
  invariant_clock_startPhase
    (invariant_clock_sequencerPhase (invariant_echoPhase recorded) (echoExpired_echoPhase _))

/-- The reset step leaves the block as after reset, and the environment's delay line bounded (R260, R261). -/
theorem invariant_resetStep (s : State) : Invariant (resetStep s) :=
  have hen : State.reset.en = false := by decide
  have hreg : RegistersLegal CfgFile.reset := by decide
  invariant_of_disabled hen hreg ⟨rfl, rfl, rfl, rfl⟩ (Nat.zero_le _) (fun _ => rfl)
    (by simp [DelayLineBounded, resetStep, recordDrive])

/-! ### Commands -/

theorem invariant_txRequest {s : State} (len : FrameLen) (d : Reg24) (h : Invariant s) :
    Invariant (txRequest len d s) := by
  obtain ⟨-, e⟩ | ⟨-, -, e⟩ | ⟨-, -, -, e⟩ | ⟨hen, hd, hroom, e⟩ := txRequest_cases len d s <;> rw [e]
  · exact invariant_raise _ h
  · exact invariant_raise _ h
  · exact invariant_raise _ h
  · obtain ⟨htxq, hevq, hfit⟩ := h.queues
    refine invariant_respond _ _ { h with
      queues := ⟨?_, hevq, ?_⟩
      quiet := fun hen' => absurd (hen.symm.trans hen') (by decide) }
    · simp only [List.length_append, List.length_singleton]; omega
    · simp only [List.forall_mem_append, List.forall_mem_singleton]
      exact ⟨hfit, by simpa [dataFits] using hd⟩

theorem invariant_startBreak {s : State} (h : Invariant s) (hen : s.en = true) (hpv : s.pending.valid = false) :
    Invariant (startBreak s) := by
  obtain ⟨-, -, -, -, -, -, -, hbrk, -⟩ := h.registers
  exact invariant_respond _ _ { h with
    quiet := fun hen' => absurd (hen.symm.trans hen') (by decide)
    armed := by simp [ArmedUnlessBreak, State.breakActive]
    sequencer := ⟨hbrk, le_rfl, hpv⟩
    pending := by simp [PendingInStep, hpv]
    capture := by simp [CaptureWellFormed] }

theorem invariant_breakCommand {s : State} (h : Invariant s) : Invariant (breakCommand s) := by
  obtain ⟨-, e⟩ | ⟨-, -, e⟩ | ⟨hen, -, hpv, e⟩ := breakCommand_cases s <;> rw [e]
  · exact invariant_raise _ h
  · exact invariant_raise _ h
  · exact invariant_startBreak h hen hpv

theorem invariant_dropEvents {s : State} {q : List Event} (h : Invariant s) (hq : q.length ≤ s.evq.length) :
    Invariant { s with evq := q } :=
  have ⟨htxq, hevq, hfit⟩ := h.queues
  { h with queues := ⟨htxq, hq.trans hevq, hfit⟩ }

theorem invariant_popEvent {s : State} (h : Invariant s) : Invariant (popEvent s) := by
  obtain ⟨-, e⟩ | ⟨ev, rest, hevq, e⟩ := popEvent_cases s <;> rw [e]
  · exact invariant_respond _ _ h
  · exact invariant_respond _ _ (invariant_dropEvents h (by simp [hevq]))

theorem invariant_clearOvf {s : State} (m : Bool) (h : Invariant s) : Invariant (clearOvf m s) := by
  cases m
  · exact h
  · exact { h with }

theorem invariant_writeTiming {s : State} {r : CfgReg} (v : Reg24) (h : Invariant s) (hr : r ≠ .ctrl) :
    Invariant (writeTiming r v s) := by
  obtain ⟨-, e⟩ | ⟨-, -, e⟩ | ⟨hen, hv, e⟩ := writeTiming_cases r v s <;> rw [e]
  · exact invariant_raise _ h
  · exact invariant_raise _ h
  · obtain ⟨-, hevq, -⟩ := h.queues
    have hen' : State.en { s with cfg := s.cfg.write r v } = false := by
      simpa [State.en, write_ctrl_of_ne _ v hr] using hen
    exact invariant_respond _ _ (invariant_of_disabled hen' (registersLegal_write h.registers hr hv) (h.quiet hen)
      hevq h.idleCount h.delayLine)

theorem invariant_writeCtrl {s : State} (v : Reg24) (h : Invariant s) : Invariant (writeCtrl v s) := by
  obtain e | ⟨hv, hen, hbit, hjoint, e⟩ | ⟨hv, -, hbit, e⟩ | ⟨hv, hbit, e⟩ := writeCtrl_cases v s <;> rw [e]
  · exact invariant_raise _ h
  · obtain ⟨hseq, -, hpv, -⟩ := h.quiet hen
    exact invariant_respond _ _ { h with
      registers := registersLegal_setCtrl h.registers hv
      joint := fun _ => hjoint
      quiet := fun hen' => absurd (hbit.symm.trans hen') (by decide)
      armed := by simp [ArmedUnlessBreak, State.breakActive, hseq]
      capture := by simp [CaptureWellFormed] }
  · obtain ⟨-, hevq, -⟩ := h.queues
    exact invariant_respond _ _ (invariant_of_disabled hbit (registersLegal_setCtrl h.registers hv)
      ⟨rfl, rfl, rfl, rfl⟩ hevq h.idleCount h.delayLine)
  · exact invariant_respond _ _ { h with
      registers := registersLegal_setCtrl h.registers hv
      joint := fun hen => h.joint (hbit.symm.trans hen)
      quiet := fun hen => h.quiet (hbit.symm.trans hen)
      armed := fun hen => h.armed (hbit.symm.trans hen) }

theorem invariant_writeRegister {s : State} (r : CfgReg) (v : Reg24) (h : Invariant s) :
    Invariant (writeRegister r v s) := by
  rw [writeRegister_eq]
  split
  · exact invariant_writeCtrl v h
  · next hr => exact invariant_writeTiming v h hr

theorem invariant_exec {s t : State} (i : Instr) (h : Invariant s) (ht : exec i s = .next t) : Invariant t := by
  cases i with
  | nop => cases ht; exact invariant_respond _ _ h
  | tx8 d => cases ht; exact invariant_txRequest _ _ h
  | tx16 d => cases ht; exact invariant_txRequest _ _ h
  | tx24 d => cases ht; exact invariant_txRequest _ _ h
  | brk => cases ht; exact invariant_breakCommand h
  | evpop => cases ht; exact invariant_popEvent h
  | evflush => cases ht; exact invariant_respond _ _ (invariant_dropEvents h (Nat.zero_le _))
  | status => cases ht; exact invariant_respond _ _ h
  | cfgw idx v =>
    simp only [exec, execCfgw] at ht
    split at ht <;> cases ht
    · exact invariant_writeRegister _ v h
    · exact invariant_raise _ h
  | cfgr idx =>
    simp only [exec, execCfgr] at ht
    split at ht <;> cases ht
    · exact invariant_respond _ _ h
    · exact invariant_raise _ h
  | clrf m => cases ht; exact invariant_respond _ _ (invariant_clearOvf m h)
  | rdnow => cases ht; exact invariant_respond _ _ h
  | rdedge => cases ht; exact invariant_respond _ _ h

theorem invariant_commandStep {s t : State} (w : Word) (h : Invariant s) (ht : commandStep w s = .next t) :
    Invariant t := by
  unfold commandStep at ht
  split at ht
  · exact invariant_exec _ h ht
  · cases ht; exact invariant_raise _ h

/-! ### The step of the machine -/

theorem invariant_takeInput {s : State} (h : Invariant s) : Invariant (takeInput s) := by
  obtain ⟨-, -, e⟩ | ⟨_, _, -, -, e⟩ := takeInput_cases s <;> rw [e]
  · exact { h with }
  · exact { h with }

theorem invariant_runInput {s t : State} (x : Input) (h : Invariant s) (ht : runInput x s = .next t) :
    Invariant t := by
  cases x with
  | command w => exact invariant_commandStep w h ht
  | tick ext => cases ht; exact invariant_tickStep _ (invariant_envTick _ h)
  | tickSense pin => cases ht; exact invariant_tickStep _ (invariant_envTick _ h)
  | resetTick offered => cases ht; exact invariant_resetStep s

/-- Settles O59: each input of a step is a command, a tick or a reset, and every operation these are made of keeps the
invariant; the tick's phases 6 to 8 do so together. -/
theorem invariantKeptByStep : Obligations.InvariantKeptByStep := by
  unfold Obligations.InvariantKeptByStep
  intro s t h ht
  exact invariant_runInput _ (invariant_takeInput h) ht

end Sys2Proof.Machine
end

section
/-! PROOFS. Noninterference of the responses (10_state.md R44): each operation a command is made of answers alike in two
states that differ only in what R44 hides. -/

namespace Sys2Proof.Machine

/-- Two states agree on everything R44 lets a response depend on. -/
structure LooksAlike (s s' : State) : Prop where
  cfg : s.cfg = s'.cfg
  now : s.now = s'.now
  line : s.line = s'.line
  lastEdge : s.lastEdge = s'.lastEdge
  idleCnt : s.idleCnt = s'.idleCnt
  lastKind : s.lastKind = s'.lastKind
  capRun : s.capRun = s'.capRun
  txBusy : s.txBusy = s'.txBusy
  breakActive : s.breakActive = s'.breakActive
  pendingValid : s.pending.valid = s'.pending.valid
  txqLength : s.txq.length = s'.txq.length
  evq : s.evq = s'.evq
  evqOvf : s.evqOvf = s'.evqOvf

/-- Two states hold the same response on the ports (R43). -/
def SameResponse (t t' : State) : Prop := t.rspStatus = t'.rspStatus ∧ t.rspData = t'.rspData

theorem sameResponse_respond (st : Status) {d d' : Word} (t t' : State) (h : d = d') :
    SameResponse (respond st d t) (respond st d' t') := ⟨rfl, h⟩

theorem sameResponse_raise (st : Status) (t t' : State) : SameResponse (raise st t) (raise st t') := ⟨rfl, rfl⟩

section
variable {s s' : State}

theorem LooksAlike.en (h : LooksAlike s s') : s.en = s'.en := by
  unfold State.en; rw [h.cfg]

/-- TXSEQ is idle exactly when STATUS shows neither a frame nor a break (R81). -/
theorem txseq_ne_idle_iff (s : State) : s.txseq ≠ .idle ↔ s.txBusy = true ∨ s.breakActive = true := by
  cases hseq : s.txseq <;> simp [State.txBusy, State.breakActive, hseq]

theorem LooksAlike.txseq_ne_idle (h : LooksAlike s s') : s.txseq ≠ .idle ↔ s'.txseq ≠ .idle := by
  rw [txseq_ne_idle_iff, txseq_ne_idle_iff, h.txBusy, h.breakActive]

theorem LooksAlike.statusWord (h : LooksAlike s s') : s.statusWord = s'.statusWord := by
  have hirq : s.irq = s'.irq := by unfold State.irq State.irqEn; rw [h.cfg, h.evq]
  have hgap : s.gapOk = s'.gapOk := by unfold State.gapOk; rw [h.line, h.cfg, h.lastKind, h.idleCnt]
  have hflags : s.statusFlags = s'.statusFlags := by
    unfold State.statusFlags
    rw [h.evqOvf, h.capRun, hgap, h.line, h.pendingValid, h.breakActive, h.txBusy, h.en]
  unfold State.statusWord
  rw [hirq, h.evq, h.txqLength, h.lastKind, hflags]

theorem sameResponse_txRequest (len : FrameLen) (d : Reg24) (h : LooksAlike s s') :
    SameResponse (txRequest len d s) (txRequest len d s') := by
  unfold txRequest
  rw [h.en, h.txqLength]
  split
  · exact sameResponse_raise _ _ _
  · split
    · exact sameResponse_raise _ _ _
    · split
      · exact sameResponse_raise _ _ _
      · exact sameResponse_respond _ _ _ rfl

theorem sameResponse_breakCommand (h : LooksAlike s s') :
    SameResponse (breakCommand s) (breakCommand s') := by
  unfold breakCommand
  simp only [h.en, h.txseq_ne_idle, h.pendingValid]
  split
  · exact sameResponse_raise _ _ _
  · split
    · exact sameResponse_raise _ _ _
    · exact sameResponse_respond _ _ _ rfl

theorem sameResponse_popEvent (h : LooksAlike s s') : SameResponse (popEvent s) (popEvent s') := by
  unfold popEvent
  rw [h.evq]
  split
  · exact sameResponse_respond _ _ _ rfl
  · exact sameResponse_respond _ _ _ rfl

theorem sameResponse_writeTiming (r : CfgReg) (v : Reg24) (h : LooksAlike s s') :
    SameResponse (writeTiming r v s) (writeTiming r v s') := by
  unfold writeTiming
  rw [h.en]
  split
  · exact sameResponse_raise _ _ _
  · split
    · exact sameResponse_raise _ _ _
    · exact sameResponse_respond _ _ _ rfl

theorem sameResponse_writeCtrl (v : Reg24) (h : LooksAlike s s') :
    SameResponse (writeCtrl v s) (writeCtrl v s') := by
  unfold writeCtrl
  rw [h.en, h.cfg]
  split
  · exact sameResponse_raise _ _ _
  · split
    · exact sameResponse_raise _ _ _
    · exact sameResponse_respond _ _ _ rfl

theorem sameResponse_writeRegister (r : CfgReg) (v : Reg24) (h : LooksAlike s s') :
    SameResponse (writeRegister r v s) (writeRegister r v s') := by
  rw [writeRegister_eq, writeRegister_eq]
  split
  · exact sameResponse_writeCtrl v h
  · exact sameResponse_writeTiming r v h

theorem sameResponse_exec {t t' : State} (i : Instr) (h : LooksAlike s s') (ht : exec i s = .next t)
    (ht' : exec i s' = .next t') : SameResponse t t' := by
  cases i with
  | nop => cases ht; cases ht'; exact sameResponse_respond _ _ _ rfl
  | tx8 d => cases ht; cases ht'; exact sameResponse_txRequest _ d h
  | tx16 d => cases ht; cases ht'; exact sameResponse_txRequest _ d h
  | tx24 d => cases ht; cases ht'; exact sameResponse_txRequest _ d h
  | brk => cases ht; cases ht'; exact sameResponse_breakCommand h
  | evpop => cases ht; cases ht'; exact sameResponse_popEvent h
  | evflush => cases ht; cases ht'; exact sameResponse_respond _ _ _ (by rw [h.evq])
  | status => cases ht; cases ht'; exact sameResponse_respond _ _ _ h.statusWord
  | cfgw idx v =>
    cases hr : CfgReg.ofIdx idx with
    | some r =>
      simp only [exec, execCfgw, hr] at ht ht'
      cases ht; cases ht'
      exact sameResponse_writeRegister _ v h
    | none =>
      simp only [exec, execCfgw, hr] at ht ht'
      cases ht; cases ht'
      exact sameResponse_raise _ _ _
  | cfgr idx =>
    cases hr : CfgReg.ofIdx idx with
    | some r =>
      simp only [exec, execCfgr, hr] at ht ht'
      cases ht; cases ht'
      exact sameResponse_respond _ _ _ (by rw [h.cfg])
    | none =>
      simp only [exec, execCfgr, hr] at ht ht'
      cases ht; cases ht'
      exact sameResponse_raise _ _ _
  | clrf m => cases ht; cases ht'; exact sameResponse_respond _ _ _ rfl
  | rdnow => cases ht; cases ht'; exact sameResponse_respond _ _ _ h.now
  | rdedge => cases ht; cases ht'; exact sameResponse_respond _ _ _ h.lastEdge

end

/-- Settles O28: R44's premises are `LooksAlike`, and every command answers alike in states that look alike. -/
theorem responsesHideInternals : Obligations.ResponsesHideInternals := by
  unfold Obligations.ResponsesHideInternals
  intro i s s' t t' hcfg hnow hline hedge hidle hkind hcap hbusy hbrk hpv htxq hevq hovf ht ht'
  exact sameResponse_exec i ⟨hcfg, hnow, hline, hedge, hidle, hkind, hcap, hbusy, hbrk, hpv, htxq, hevq, hovf⟩ ht ht'

end Sys2Proof.Machine
end

section
/-! PROOFS. Where LAST_KIND can come from in a tick step (10_state.md R36): phase by phase, and over the whole tick. -/

namespace Sys2Proof.Machine

/-- From `s` to `t` LAST_KIND is kept, or it becomes unknown, or it is the kind of a valid frame whose event, sent or
received, is the one event queued (R36, R134, R135). -/
def KindByEvents (s t : State) : Prop :=
  t.lastKind = s.lastKind ∨ t.lastKind = .unknown
    ∨ ∃ len v, (t.evq = s.evq ++ [.txCompleted len v] ∨ t.evq = s.evq ++ [.frameReceived len v])
      ∧ t.lastKind = len.kind

/-- A later phase that queues nothing and keeps LAST_KIND or forgets it adds nothing to where LAST_KIND comes from. -/
theorem KindByEvents.trans_quiet {s t u : State} (h : KindByEvents s t)
    (hu : (u.lastKind = t.lastKind ∧ u.evq = t.evq) ∨ u.lastKind = .unknown) : KindByEvents s u := by
  obtain ⟨hkind, hevq⟩ | hkind := hu
  · unfold KindByEvents at h ⊢
    rw [hkind, hevq]
    exact h
  · exact .inr (.inl hkind)

/-- With room in EVQ `emit` queues its event (R165). -/
theorem emit_evq_of_room (ev : Event) {s : State} (hroom : s.evq.length < Config.evqDepth) :
    (emit ev s).evq = s.evq ++ [ev] := by
  rw [emit, if_pos hroom]

theorem resolve_kindByEvents (b : List CapPulse) {s : State} (hroom : s.evq.length < Config.evqDepth) :
    KindByEvents s (resolve b s) := by
  unfold resolve
  cases hpv : s.pending.valid
  · obtain e | ⟨_, _, hev, e⟩ := resolveResult_nothing_pending (decodeBurst s.cfg (b.map CapPulse.pulse)) s hpv <;>
      rw [e]
    · exact .inl rfl
    · cases hev with
      | received len v => exact .inr (.inr ⟨len, v, .inr (emit_evq_of_room _ hroom), rfl⟩)
      | error => exact .inr (.inl rfl)
      | busFailure => exact .inr (.inl rfl)
  · obtain ⟨_, _, _, hev, -, e⟩ := resolveResult_pending (decodeBurst s.cfg (b.map CapPulse.pulse)) s hpv
    rw [e]
    cases hev with
    | completed => exact .inr (.inr ⟨_, _, .inl (emit_evq_of_room _ hroom), rfl⟩)
    | collision => exact .inr (.inl rfl)
    | busFailure => exact .inr (.inl rfl)

theorem capturePhase_kindByEvents (l : Level) {s : State} (hroom : s.evq.length < Config.evqDepth) :
    KindByEvents s (capturePhase l s) := by
  obtain ⟨-, e⟩ | ⟨-, -, e⟩ | ⟨_, _, _, _, _, -, -, ⟨-, e⟩ | ⟨-, e⟩⟩ := capturePhase_cases l s <;> rw [e]
  · exact .inl rfl
  · exact .inl rfl
  · exact .inl rfl
  · exact resolve_kindByEvents _ (s := { s with cap := .wait }) hroom

theorem echoPhase_kind (s : State) :
    ((echoPhase s).lastKind = s.lastKind ∧ (echoPhase s).evq = s.evq) ∨ (echoPhase s).lastKind = .unknown := by
  obtain ⟨-, e⟩ | ⟨-, -, e⟩ := echoPhase_cases s <;> rw [e]
  · exact .inl ⟨rfl, rfl⟩
  · exact .inr rfl

theorem sequencerPhase_kind (s : State) :
    (sequencerPhase s).lastKind = s.lastKind ∨ (sequencerPhase s).lastKind = .unknown := by
  obtain ⟨-, e⟩ | ⟨_, _, _, -, ⟨-, e⟩ | ⟨-, e⟩⟩ | ⟨_, -, ⟨-, e⟩ | ⟨-, e⟩⟩ := sequencerPhase_cases s <;> simp [e]

/-- In a tick step only phase 4 makes LAST_KIND known; phases 5 and 6 keep it or make it unknown, and the others do not
write it (R150). -/
theorem tickStep_kindByEvents (l : Level) {s : State} (hroom : s.evq.length < Config.evqDepth) :
    KindByEvents s (tickStep l s) := by
  have hcapture : KindByEvents s (capturePhase l (monitorPhase l (drivePhase s))) :=
    capturePhase_kindByEvents l (s := monitorPhase l (drivePhase s)) hroom
  have hecho := hcapture.trans_quiet (echoPhase_kind _)
  unfold tickStep
  refine hecho.trans_quiet ?_
  simpa using sequencerPhase_kind (echoPhase (capturePhase l (monitorPhase l (drivePhase s))))

theorem FrameLen.kind_eq (len : FrameLen) : len.kind = if len = .b8 then .bwd else .fwd := by
  cases len <;> rfl

/-- Settles O51: of the three origins of LAST_KIND after a tick step, a change of it leaves two. -/
theorem kindKnownOnlyFromValidFrame : Obligations.KindKnownOnlyFromValidFrame := by
  unfold Obligations.KindKnownOnlyFromValidFrame
  intro l s hroom hne
  obtain hkept | hunknown | ⟨len, v, hevq, hkind⟩ := tickStep_kindByEvents l hroom
  · exact absurd hkept hne
  · exact .inl hunknown
  · exact .inr ⟨len, v, hevq, hkind.trans len.kind_eq⟩

end Sys2Proof.Machine
end

section
/-! PROOFS. What a tick does with the oldest request (42_frame_driver.md R162, R163): when it takes it, when it must,
and how long an enabled block on an idle line waits before it does. -/

namespace Sys2Proof.Machine

/-! ### One tick -/

theorem gapTicks_eq (c : CfgFile) (k : Kind) :
    gapTicks c k = if k = .fwd then c.gapFwdTicks.toNat else c.gapBwdTicks.toNat := by
  cases k <;> rfl

/-- Phases 1 to 6 of a tick that samples `l`: what TxStart decides on (R150, R163). -/
def beforeStart (l : Level) (s : State) : State :=
  sequencerPhase (echoPhase (capturePhase l (monitorPhase l (drivePhase s))))

theorem tickStep_eq_beforeStart (l : Level) (s : State) :
    tickStep l s = clockPhase (startPhase (beforeStart l s)) := rfl

@[simp] theorem beforeStart_cfg (l : Level) (s : State) : (beforeStart l s).cfg = s.cfg := by simp [beforeStart]
@[simp] theorem beforeStart_now (l : Level) (s : State) : (beforeStart l s).now = s.now := by simp [beforeStart]
@[simp] theorem beforeStart_line (l : Level) (s : State) : (beforeStart l s).line = l := by simp [beforeStart]
@[simp] theorem beforeStart_txq (l : Level) (s : State) : (beforeStart l s).txq = s.txq := by simp [beforeStart]
@[simp] theorem beforeStart_en (l : Level) (s : State) : (beforeStart l s).en = s.en := by simp [State.en]

/-- A tick is its phases 1 to 6 and the clock, or those with the start of the oldest request between them (R163). -/
theorem tickStep_start_cases (l : Level) (s : State) :
    tickStep l s = clockPhase (beforeStart l s)
    ∨ ∃ r rest, s.txq = r :: rest ∧ mayStart (beforeStart l s) = true
        ∧ tickStep l s = clockPhase (startRequest r rest (beforeStart l s)) := by
  rw [tickStep_eq_beforeStart]
  obtain ⟨-, e⟩ | ⟨r, rest, hq, hmay, e⟩ := startPhase_cases (beforeStart l s) <;> rw [e]
  · exact .inl rfl
  · exact .inr ⟨r, rest, by simpa using hq, hmay, rfl⟩

theorem tickStep_of_mayStart {l : Level} {s : State} {r : TxReq} {rest : List TxReq} (hq : s.txq = r :: rest)
    (hmay : mayStart (beforeStart l s) = true) :
    tickStep l s = clockPhase (startRequest r rest (beforeStart l s)) := by
  rw [tickStep_eq_beforeStart, startPhase, beforeStart_txq, hq]
  simp only [hmay, if_true]

theorem tickStep_of_not_mayStart {l : Level} {s : State} (hmay : mayStart (beforeStart l s) = false) :
    tickStep l s = clockPhase (beforeStart l s) := by
  obtain e | ⟨_, _, -, hmay', -⟩ := tickStep_start_cases l s
  · exact e
  · exact absurd (hmay.symm.trans hmay') (by decide)

/-! ### Waiting on an idle line -/

/-- An enabled block with nothing driven, pending or captured. -/
structure WaitsToStart (s : State) : Prop where
  en : s.en = true
  txseq : s.txseq = .idle
  pending : s.pending.valid = false
  cap : s.cap = .wait

/-- The ticks of an idle line up to and with the one that starts a request; one at least, as TxStart is a phase. -/
def ticksToStart (s : State) : Nat := max 1 (gapTicks s.cfg s.lastKind - s.idleCnt.toNat)

/-- While the block waits, phases 4 to 6 of an idle tick do nothing: no burst, no outcome and no frame is there. -/
theorem WaitsToStart.beforeStart_idle {s : State} (h : WaitsToStart s) :
    beforeStart .idle s = monitorPhase .idle (drivePhase s) := by
  have hcapture : capturePhase .idle (monitorPhase .idle (drivePhase s)) = monitorPhase .idle (drivePhase s) := by
    simp [capturePhase, h.cap]
  have hecho : echoPhase (monitorPhase .idle (drivePhase s)) = monitorPhase .idle (drivePhase s) := by
    simp [echoPhase, echoExpired, h.pending]
  have hsequencer : sequencerPhase (monitorPhase .idle (drivePhase s)) = monitorPhase .idle (drivePhase s) := by
    simp [sequencerPhase, h.txseq]
  rw [beforeStart, hcapture, hecho, hsequencer]

/-- A gap is a 24-bit register, so it is below what IDLE_CNT can count to (R22, R35). -/
theorem gapTicks_lt (c : CfgFile) (k : Kind) : gapTicks c k < 2 ^ 24 := by
  cases k
  · exact c.gapBwdTicks.isLt
  · exact c.gapFwdTicks.isLt
  · exact c.gapBwdTicks.isLt

/-- A waiting block may start in the next idle tick exactly when that tick completes the settle time: saturation of
IDLE_CNT does not get in the way. -/
theorem WaitsToStart.mayStart_idle_iff {s : State} (h : WaitsToStart s) :
    mayStart (beforeStart .idle s) = true ↔ ticksToStart s = 1 := by
  have hgap := gapTicks_lt s.cfg s.lastKind
  have hen : (monitorPhase .idle (drivePhase s)).en = true := h.en
  rw [h.beforeStart_idle, mayStart_iff]
  simp only [hen, monitorPhase_txseq, drivePhase_txseq, h.txseq, monitorPhase_pending, drivePhase_pending, h.pending,
    monitorPhase_cap, drivePhase_cap, h.cap, monitorPhase_line, monitorPhase_cfg, drivePhase_cfg, monitorPhase_lastKind,
    drivePhase_lastKind, monitorPhase_idleCnt, drivePhase_idleCnt, nextIdleCnt_toNat, true_and, ticksToStart]
  omega

/-- An idle tick that does not complete the settle time only brings its end one tick nearer. -/
theorem WaitsToStart.tickStep_idle {s : State} (h : WaitsToStart s) (hwait : 1 < ticksToStart s) :
    WaitsToStart (tickStep .idle s) ∧ (tickStep .idle s).txq = s.txq ∧ (tickStep .idle s).now = s.now + 1
      ∧ ticksToStart (tickStep .idle s) = ticksToStart s - 1 := by
  have hmay : mayStart (beforeStart .idle s) = false := by
    rw [Bool.eq_false_iff, ne_eq, h.mayStart_idle_iff]
    omega
  have hgap := gapTicks_lt s.cfg s.lastKind
  rw [tickStep_of_not_mayStart hmay, h.beforeStart_idle]
  refine ⟨⟨h.en, h.txseq, h.pending, h.cap⟩, rfl, rfl, ?_⟩
  simp only [ticksToStart] at hwait ⊢
  simp only [clockPhase_cfg, monitorPhase_cfg, drivePhase_cfg, clockPhase_lastKind, monitorPhase_lastKind,
    drivePhase_lastKind, clockPhase_idleCnt, monitorPhase_idleCnt, drivePhase_idleCnt, nextIdleCnt_toNat]
  omega

theorem runLevels_replicate_succ (l : Level) (k : Nat) (s : State) :
    runLevels (List.replicate (k + 1) l) s = tickStep l (runLevels (List.replicate k l) s) := by
  simp [runLevels, List.replicate_succ', List.foldl_append]

/-- One tick more of the clock, which counts modulo 2^32 (R164). -/
theorem now_add_succ (now : Word) (k : Nat) : now + BitVec.ofNat 32 (k + 1) = now + BitVec.ofNat 32 k + 1 := by
  rw [BitVec.ofNat_add, ← BitVec.add_assoc]
  rfl

/-- Short of the tick that completes the settle time an idle line leaves the block waiting, its requests untouched. -/
theorem WaitsToStart.runLevels_idle {s : State} (h : WaitsToStart s) (k : Nat) (hk : k < ticksToStart s) :
    WaitsToStart (runLevels (List.replicate k .idle) s)
      ∧ (runLevels (List.replicate k .idle) s).txq = s.txq
      ∧ (runLevels (List.replicate k .idle) s).now = s.now + BitVec.ofNat 32 k
      ∧ ticksToStart (runLevels (List.replicate k .idle) s) = ticksToStart s - k := by
  induction k with
  | zero => exact ⟨h, rfl, (BitVec.add_zero s.now).symm, rfl⟩
  | succ k ih =>
    obtain ⟨hwaits, htxq, hnow, hticks⟩ := ih (by omega)
    obtain ⟨hwaits', htxq', hnow', hticks'⟩ := hwaits.tickStep_idle (by omega)
    rw [runLevels_replicate_succ, now_add_succ]
    exact ⟨hwaits', htxq'.trans htxq, by rw [hnow', hnow], by omega⟩

/-- On an idle line a waiting block starts its oldest request at the tick that completes the settle time. -/
theorem WaitsToStart.runLevels_idle_start {s : State} (h : WaitsToStart s) {r : TxReq} {rest : List TxReq}
    (hq : s.txq = r :: rest) :
    ∃ u, runLevels (List.replicate (ticksToStart s) .idle) s = clockPhase (startRequest r rest u)
      ∧ u.now + 1 = s.now + BitVec.ofNat 32 (ticksToStart s) := by
  obtain ⟨k, hk⟩ : ∃ k, ticksToStart s = k + 1 := ⟨ticksToStart s - 1, by unfold ticksToStart; omega⟩
  obtain ⟨hwaits, htxq, hnow, hticks⟩ := h.runLevels_idle k (by omega)
  rw [hk, runLevels_replicate_succ,
    tickStep_of_mayStart (htxq.trans hq) (hwaits.mayStart_idle_iff.2 (by omega))]
  refine ⟨_, rfl, ?_⟩
  rw [beforeStart_now, hnow, now_add_succ]

/-- Settles O47: TXQ changes only by TxStart, whose conditions are `mayStart_iff`; on an idle line they come true at the
tick that completes the settle time. -/
theorem transmitOnlyAfterSettleTime : Obligations.TransmitOnlyAfterSettleTime := by
  unfold Obligations.TransmitOnlyAfterSettleTime
  refine ⟨fun l s hne => ?_, fun l s r rest hen hq hl => ?_, fun s r rest hen hq hseq hpv hcap => ?_⟩
  · obtain e | ⟨r, rest, hq, hmay, e⟩ := tickStep_start_cases l s
    · exact absurd (by simp [e]) hne
    · obtain ⟨hen, -, -, hcap, hline, hgap⟩ := (mayStart_iff _).1 hmay
      rw [beforeStart_en] at hen
      rw [beforeStart_line] at hline
      rw [beforeStart_cfg, gapTicks_eq] at hgap
      rw [e]
      exact ⟨hen, hline, hcap, hgap, r, hq, rfl, rfl⟩
  · intro u hseq hpv hcap hgap
    have hmay : mayStart (beforeStart l s) = true := by
      rw [mayStart_iff, beforeStart_en, beforeStart_line, beforeStart_cfg, gapTicks_eq]
      exact ⟨hen, hseq, hpv, hcap, hl, hgap⟩
    rw [tickStep_of_mayStart hq hmay]
    exact ⟨rfl, rfl, by simp⟩
  · rw [← gapTicks_eq]
    have hwaits : WaitsToStart s := ⟨hen, hseq, hpv, hcap⟩
    obtain ⟨u, hstart, hnow⟩ := hwaits.runLevels_idle_start hq
    unfold ticksToStart at hstart hnow
    refine ⟨fun k hk => ?_, ?_⟩
    · obtain ⟨hstill, htxq, -, -⟩ := hwaits.runLevels_idle k hk
      exact ⟨htxq, hstill.txseq⟩
    · simp only [hstart, ← hnow]
      exact ⟨rfl, rfl, rfl⟩

end Sys2Proof.Machine
end

section
/-! PROOFS. What the commands leave alone (20_memory.md R55, R56), and the tick as an input of the machine (R57). -/

namespace Sys2Proof.Machine

/-! ### The frame of a command -/

/-- From `s` to `t` the tick counter, the line monitor, drv_active, EVQ_OVF and the environment are kept, and events are
at most taken from the front of EVQ (R55, R56). -/
structure CommandFrame (s t : State) : Prop where
  now : t.now = s.now
  line : t.line = s.line
  lastEdge : t.lastEdge = s.lastEdge
  idleCnt : t.idleCnt = s.idleCnt
  drvActive : t.drvActive = s.drvActive
  env : t.env = s.env
  evq : ∃ k, t.evq = s.evq.drop k
  evqOvf : t.evqOvf = s.evqOvf

theorem CommandFrame.refl (s : State) : CommandFrame s s := ⟨rfl, rfl, rfl, rfl, rfl, rfl, ⟨0, rfl⟩, rfl⟩

theorem CommandFrame.respond {s t : State} (st : Status) (d : Word) (h : CommandFrame s t) :
    CommandFrame s (respond st d t) := { h with }

theorem commandFrame_raise (st : Status) (s : State) : CommandFrame s (raise st s) :=
  (CommandFrame.refl s).respond st 0

theorem commandFrame_txRequest (len : FrameLen) (d : Reg24) (s : State) : CommandFrame s (txRequest len d s) := by
  obtain ⟨-, e⟩ | ⟨-, -, e⟩ | ⟨-, -, -, e⟩ | ⟨-, -, -, e⟩ := txRequest_cases len d s <;> rw [e]
  · exact commandFrame_raise _ s
  · exact commandFrame_raise _ s
  · exact commandFrame_raise _ s
  · exact { CommandFrame.refl s with }

theorem commandFrame_breakCommand (s : State) : CommandFrame s (breakCommand s) := by
  obtain ⟨-, e⟩ | ⟨-, -, e⟩ | ⟨-, -, -, e⟩ := breakCommand_cases s <;> rw [e]
  · exact commandFrame_raise _ s
  · exact commandFrame_raise _ s
  · exact { CommandFrame.refl s with }

/-- Events leave EVQ from its front only (R56). -/
theorem commandFrame_dropEvents (k : Nat) (s : State) : CommandFrame s { s with evq := s.evq.drop k } :=
  { CommandFrame.refl s with evq := ⟨k, rfl⟩ }

theorem commandFrame_popEvent (s : State) : CommandFrame s (popEvent s) := by
  obtain ⟨-, e⟩ | ⟨ev, rest, hq, e⟩ := popEvent_cases s <;> rw [e]
  · exact (CommandFrame.refl s).respond _ _
  · have hrest : rest = s.evq.drop 1 := by rw [hq, List.drop_one, List.tail_cons]
    rw [hrest]
    exact (commandFrame_dropEvents 1 s).respond _ _

theorem commandFrame_writeTiming (r : CfgReg) (v : Reg24) (s : State) : CommandFrame s (writeTiming r v s) := by
  obtain ⟨-, e⟩ | ⟨-, -, e⟩ | ⟨-, -, e⟩ := writeTiming_cases r v s <;> rw [e]
  · exact commandFrame_raise _ s
  · exact commandFrame_raise _ s
  · exact { CommandFrame.refl s with }

theorem commandFrame_writeCtrl (v : Reg24) (s : State) : CommandFrame s (writeCtrl v s) := by
  obtain e | ⟨-, -, -, -, e⟩ | ⟨-, -, -, e⟩ | ⟨-, -, e⟩ := writeCtrl_cases v s <;> rw [e]
  · exact commandFrame_raise _ s
  · exact { CommandFrame.refl s with }
  · exact { CommandFrame.refl s with }
  · exact { CommandFrame.refl s with }

theorem commandFrame_writeRegister (r : CfgReg) (v : Reg24) (s : State) : CommandFrame s (writeRegister r v s) := by
  rw [writeRegister_eq]
  split
  · exact commandFrame_writeCtrl v s
  · exact commandFrame_writeTiming r v s

theorem commandFrame_exec {s t : State} {i : Instr} (hi : ∀ m, i ≠ .clrf m) (ht : exec i s = .next t) :
    CommandFrame s t := by
  cases i with
  | nop => cases ht; exact (CommandFrame.refl s).respond _ _
  | tx8 d => cases ht; exact commandFrame_txRequest _ d s
  | tx16 d => cases ht; exact commandFrame_txRequest _ d s
  | tx24 d => cases ht; exact commandFrame_txRequest _ d s
  | brk => cases ht; exact commandFrame_breakCommand s
  | evpop => cases ht; exact commandFrame_popEvent s
  | evflush =>
    cases ht
    have hall := commandFrame_dropEvents s.evq.length s
    rw [List.drop_length] at hall
    exact hall.respond _ _
  | status => cases ht; exact (CommandFrame.refl s).respond _ _
  | cfgw idx v =>
    simp only [exec, execCfgw] at ht
    split at ht <;> cases ht
    · exact commandFrame_writeRegister _ v s
    · exact commandFrame_raise _ s
  | cfgr idx =>
    simp only [exec, execCfgr] at ht
    split at ht <;> cases ht
    · exact (CommandFrame.refl s).respond _ _
    · exact commandFrame_raise _ s
  | clrf m => exact absurd rfl (hi m)
  | rdnow => cases ht; exact (CommandFrame.refl s).respond _ _
  | rdedge => cases ht; exact (CommandFrame.refl s).respond _ _

/-- Settles O26: every command but CLRF keeps `CommandFrame`, and CLRF writes nothing but EVQ_OVF and the response. -/
theorem commandsKeepLineMonitor : Obligations.CommandsKeepLineMonitor := by
  unfold Obligations.CommandsKeepLineMonitor
  intro i s t ht
  by_cases hclrf : ∃ m, i = .clrf m
  · obtain ⟨m, rfl⟩ := hclrf
    cases ht
    exact ⟨by simp, by simp, by simp, by simp, by simp, by simp, ⟨0, by simp⟩, fun hi => absurd rfl (hi m)⟩
  · have hi : ∀ m, i ≠ .clrf m := fun m hm => hclrf ⟨m, hm⟩
    have h := commandFrame_exec hi ht
    exact ⟨h.now, h.line, h.lastEdge, h.idleCnt, h.drvActive, h.env, h.evq, fun _ => h.evqOvf⟩

/-! ### Commands without a side effect -/

/-- In `s` the command `i` only sets the response, and to the same one whatever the response ports hold (R55). -/
def RespondsOnly (i : Instr) (s : State) : Prop :=
  ∃ st d, exec i s = .next (respond st d s)
    ∧ ∀ st' d', exec i (respond st' d' s) = .next (respond st d (respond st' d' s))

theorem respondsOnly_cfgr (idx : BitVec 4) (s : State) : RespondsOnly (.cfgr idx) s := by
  unfold RespondsOnly
  simp only [exec, execCfgr]
  cases CfgReg.ofIdx idx with
  | some r => exact ⟨_, _, rfl, fun _ _ => rfl⟩
  | none => exact ⟨_, _, rfl, fun _ _ => rfl⟩

/-- The commands R55 names only set the response. -/
theorem respondsOnly_of_readOnly {i : Instr} (s : State)
    (hi : i ∈ [.nop, .status, .rdnow, .rdedge] ∨ ∃ idx, i = .cfgr idx) : RespondsOnly i s := by
  obtain hi | ⟨idx, rfl⟩ := hi
  · simp only [List.mem_cons, List.not_mem_nil, or_false] at hi
    obtain rfl | rfl | rfl | rfl := hi
    · exact ⟨_, _, rfl, fun _ _ => rfl⟩
    · exact ⟨_, _, rfl, fun _ _ => rfl⟩
    · exact ⟨_, _, rfl, fun _ _ => rfl⟩
    · exact ⟨_, _, rfl, fun _ _ => rfl⟩
  · exact respondsOnly_cfgr idx s

/-- Settles O27: a command that only sets the response gives the same one again, and then changes nothing. -/
theorem readOnlyCommandsIdempotent : Obligations.ReadOnlyCommandsIdempotent := by
  unfold Obligations.ReadOnlyCommandsIdempotent
  intro i s t hi ht
  obtain ⟨st, d, hfirst, hagain⟩ := respondsOnly_of_readOnly s hi
  rw [hfirst] at ht
  cases ht
  exact ⟨rfl, hagain st d⟩

/-! ### The tick as an input -/

/-- A step takes the first input placed and runs it (R57, log 1). -/
theorem step_of_inputs {s : State} {x : Input} {rest : List Input} (h : s.env.inputs = x :: rest) :
    step s = runInput x { s with env := { s.env with inputs := rest } } := by
  unfold step nextInput takeInput
  rw [h]

theorem ofBit_eq_ite (b : Bool) : Level.ofBit b = if b = true then .active else .idle := rfl

/-- The line is active when another unit drives, or the block drove ENV_LOOP_DELAY ticks ago (R152). -/
theorem busLevel_eq (ext : Bool) (s : State) :
    busLevel ext s =
      if ext = true ∨ (driveOut s :: s.env.drvHist)[s.env.loopDelay]? = some true then .active else .idle := by
  have hdrive : delayedDrive s.env (driveOut s) = true ↔
      (driveOut s :: s.env.drvHist)[s.env.loopDelay]? = some true := by
    unfold delayedDrive
    cases (driveOut s :: s.env.drvHist)[s.env.loopDelay]? <;> simp
  simp only [busLevel, ofBit_eq_ite, Bool.or_eq_true, hdrive, or_comm]

theorem pinLevel_eq (pin : Bool) (s : State) :
    pinLevel pin s = if pin = s.env.boardInverted then .idle else .active := by
  unfold pinLevel
  cases pin <;> cases s.env.boardInverted <;> rfl

/-- Settles O7: taking the input moves only the list of inputs, which no phase reads. -/
theorem stepRunsTick : Obligations.StepRunsTick := by
  unfold Obligations.StepRunsTick
  intro s rest
  refine ⟨fun ext h => ?_, fun pin h => ?_⟩
  · rw [step_of_inputs h, runInput, tickInBus, busLevel_eq]
    rfl
  · rw [step_of_inputs h, runInput, tickFromPin, pinLevel_eq]
    rfl

end Sys2Proof.Machine
end

section
/-! PROOFS. The command word (30_encoding.md R74 to R76): how its fields make it up, what the decoder answers for each OPC,
that the decoder and the encoder undo each other, and which words are ILLEGAL. -/

namespace Sys2Proof

/-! ### The fields of a word, put together and taken apart -/

theorem opcField_append_restField (w : Word) : opcField w ++ restField w = w :=
  BitVec.extractLsb'_append_extractLsb' (w := 4) (len := 28)

/-- A word is what its OPC and the bits below it are put together to. -/
theorem append_eq_of_fields {w : Word} {a : BitVec 4} {r : BitVec 28} (ha : opcField w = a) (hr : restField w = r) :
    a ++ r = w := by
  rw [← ha, ← hr, opcField_append_restField]

theorem idxField_append_dataField (w : Word) : idxField w ++ dataField w = restField w :=
  BitVec.extractLsb'_append_extractLsb'_eq_extractLsb' rfl

theorem rsvField_append_lenField_append_dataField (w : Word) :
    rsvField w ++ (lenField w ++ dataField w) = restField w := by
  have hlow : lenField w ++ dataField w = w.extractLsb' 0 26 :=
    BitVec.extractLsb'_append_extractLsb'_eq_extractLsb' rfl
  rw [hlow]
  exact BitVec.extractLsb'_append_extractLsb'_eq_extractLsb' rfl

theorem upperRestField_append_bit0Field (w : Word) :
    upperRestField w ++ BitVec.ofBool (bit0Field w) = restField w := by
  have hbit : BitVec.ofBool (bit0Field w) = w.extractLsb' 0 1 := by
    apply BitVec.eq_of_getLsbD_eq
    intro i hi
    obtain rfl : i = 0 := by omega
    simp [bit0Field]
  rw [hbit]
  exact BitVec.extractLsb'_append_extractLsb'_eq_extractLsb' rfl

section
variable (a : BitVec 4)

@[simp] theorem opcField_append_rest (r : BitVec 28) : opcField (a ++ r) = a :=
  BitVec.extractLsb'_append_eq_left

@[simp] theorem restField_append_rest (r : BitVec 28) : restField (a ++ r) = r :=
  BitVec.extractLsb'_append_eq_right

theorem rsvField_append (b c : BitVec 2) (d : Reg24) : rsvField (a ++ (b ++ (c ++ d))) = b := by
  rw [rsvField, BitVec.extractLsb'_append_eq_of_add_le (by decide)]
  exact BitVec.extractLsb'_append_eq_left

theorem lenField_append (b c : BitVec 2) (d : Reg24) : lenField (a ++ (b ++ (c ++ d))) = c := by
  rw [lenField, BitVec.extractLsb'_append_eq_of_add_le (by decide), BitVec.extractLsb'_append_eq_of_add_le (by decide)]
  exact BitVec.extractLsb'_append_eq_left

theorem dataField_append_lenField (b c : BitVec 2) (d : Reg24) : dataField (a ++ (b ++ (c ++ d))) = d := by
  rw [dataField, BitVec.extractLsb'_append_eq_of_add_le (by decide), BitVec.extractLsb'_append_eq_of_add_le (by decide)]
  exact BitVec.extractLsb'_append_eq_right

theorem upperRestField_append (u : BitVec 27) (b : BitVec 1) : upperRestField (a ++ (u ++ b)) = u := by
  rw [upperRestField, BitVec.extractLsb'_append_eq_of_add_le (by decide)]
  exact BitVec.extractLsb'_append_eq_left

theorem bit0Field_append (u : BitVec 27) (b : BitVec 1) : bit0Field (a ++ (u ++ b)) = b.getLsbD 0 := by
  simp only [bit0Field, BitVec.getLsbD_append]
  simp

end

/-! ### The decoder, one OPC at a time -/

/-- The commands without operands, with their OPC (R74). -/
def plainCommands : List (BitVec 4 × Instr) :=
  [(0x0#4, .nop), (0x2#4, .brk), (0x3#4, .evpop), (0x4#4, .evflush), (0x5#4, .status)]

theorem encode_of_plain {a : BitVec 4} {i : Instr} (h : (a, i) ∈ plainCommands) :
    i.wellFormed = true ∧ encode i = a ++ 0#28 := by
  simp only [plainCommands, List.mem_cons, Prod.mk.injEq, List.not_mem_nil, or_false] at h
  obtain ⟨rfl, rfl⟩ | ⟨rfl, rfl⟩ | ⟨rfl, rfl⟩ | ⟨rfl, rfl⟩ | ⟨rfl, rfl⟩ := h <;> exact ⟨rfl, rfl⟩

/-- The OPCs of R74: those of the commands without operands, the five others, and the reserved ones. -/
theorem opc_cases (a : BitVec 4) :
    a.toNat ∈ [0x0, 0x2, 0x3, 0x4, 0x5] ∨ a = 0x1#4 ∨ a = 0x6#4 ∨ a = 0x7#4 ∨ a = 0x8#4 ∨ a = 0x9#4
      ∨ 0xA ≤ a.toNat := by
  revert a; decide

theorem opc_plain_excludes (a : BitVec 4) (h : a.toNat ∈ [0x0, 0x2, 0x3, 0x4, 0x5]) :
    a ≠ 0x1#4 ∧ a ≠ 0x6#4 ∧ a ≠ 0x7#4 ∧ a ≠ 0x8#4 ∧ a ≠ 0x9#4 ∧ ¬0xA ≤ a.toNat := by
  revert a; decide

theorem exists_plain_iff (a : BitVec 4) : (∃ i, (a, i) ∈ plainCommands) ↔ a.toNat ∈ [0x0, 0x2, 0x3, 0x4, 0x5] := by
  simp [plainCommands, exists_or, ← BitVec.toNat_inj]

section
variable {w : Word}

/-- The word of a command without operands is read by `decodePlain` (R76). -/
theorem decode_of_plain {i : Instr} (h : (opcField w, i) ∈ plainCommands) : decode w = decodePlain w i := by
  simp only [plainCommands, List.mem_cons, Prod.mk.injEq, List.not_mem_nil, or_false] at h
  obtain ⟨h, rfl⟩ | ⟨h, rfl⟩ | ⟨h, rfl⟩ | ⟨h, rfl⟩ | ⟨h, rfl⟩ := h <;> simp [decode, h]

theorem decode_of_opc_tx (h : opcField w = 0x1#4) : decode w = decodeTx w := by simp [decode, h]
theorem decode_of_opc_cfgw (h : opcField w = 0x6#4) : decode w = decodeCfgw w := by simp [decode, h]
theorem decode_of_opc_cfgr (h : opcField w = 0x7#4) : decode w = decodeCfgr w := by simp [decode, h]
theorem decode_of_opc_clrf (h : opcField w = 0x8#4) : decode w = decodeClrf w := by simp [decode, h]
theorem decode_of_opc_rd (h : opcField w = 0x9#4) : decode w = decodeRd w := by simp [decode, h]

theorem decode_of_opc_reserved (h : 0xA ≤ (opcField w).toNat) : decode w = none := by
  have hne (k : BitVec 4) (hk : k.toNat < 0xA) : opcField w ≠ k := by
    rintro rfl
    omega
  simp [decode, hne]

/-- What the decoder does, by OPC (R74, R76). -/
theorem decode_cases (w : Word) :
    (∃ i, (opcField w, i) ∈ plainCommands ∧ decode w = decodePlain w i)
      ∨ (opcField w = 0x1#4 ∧ decode w = decodeTx w)
      ∨ (opcField w = 0x6#4 ∧ decode w = decodeCfgw w)
      ∨ (opcField w = 0x7#4 ∧ decode w = decodeCfgr w)
      ∨ (opcField w = 0x8#4 ∧ decode w = decodeClrf w)
      ∨ (opcField w = 0x9#4 ∧ decode w = decodeRd w)
      ∨ (0xA ≤ (opcField w).toNat ∧ decode w = none) := by
  obtain h | h | h | h | h | h | h := opc_cases (opcField w)
  · obtain ⟨i, hi⟩ := (exists_plain_iff _).2 h
    exact .inl ⟨i, hi, decode_of_plain hi⟩
  · simp [h, decode_of_opc_tx h]
  · simp [h, decode_of_opc_cfgw h]
  · simp [h, decode_of_opc_cfgr h]
  · simp [h, decode_of_opc_clrf h]
  · simp [h, decode_of_opc_rd h]
  · simp [h, decode_of_opc_reserved h]

/-! ### What each of the decoder's readers accepts and refuses -/

theorem decodePlain_eq_some_iff {i j : Instr} : decodePlain w i = some j ↔ restField w = 0#28 ∧ i = j := by
  simp [decodePlain]

theorem decodePlain_eq_none_iff {i : Instr} : decodePlain w i = none ↔ restField w ≠ 0#28 := by
  simp [decodePlain]

theorem decodeTx_eq_some_iff {i : Instr} : decodeTx w = some i ↔
    rsvField w = 0#2 ∧ (lenField w = 0#2 ∧ .tx8 (dataField w) = i ∨ lenField w = 1#2 ∧ .tx16 (dataField w) = i
      ∨ lenField w = 2#2 ∧ .tx24 (dataField w) = i) := by
  unfold decodeTx
  split_ifs <;> simp [*]

theorem decodeTx_eq_none_iff : decodeTx w = none ↔ lenField w = 3#2 ∨ rsvField w ≠ 0#2 := by
  have hlen : lenField w = 0#2 ∨ lenField w = 1#2 ∨ lenField w = 2#2 ∨ lenField w = 3#2 := by
    generalize lenField w = l
    revert l
    decide
  obtain h | h | h | h := hlen <;> simp [decodeTx, h]

theorem decodeCfgw_eq_some_iff {i : Instr} : decodeCfgw w = some i ↔
    idxExists (idxField w) = true ∧ .cfgw (idxField w) (dataField w) = i := by
  simp [decodeCfgw]

theorem idxExists_eq_false_iff (idx : BitVec 4) : idxExists idx = false ↔ 9 ≤ idx.toNat := by
  simp only [idxExists, decide_eq_false_iff_not]
  omega

theorem decodeCfgw_eq_none_iff : decodeCfgw w = none ↔ 9 ≤ (idxField w).toNat := by
  simp [decodeCfgw, idxExists_eq_false_iff]

theorem decodeCfgr_eq_some_iff {i : Instr} : decodeCfgr w = some i ↔
    (idxExists (idxField w) = true ∧ dataField w = 0#24) ∧ .cfgr (idxField w) = i := by
  simp [decodeCfgr]

theorem decodeCfgr_eq_none_iff : decodeCfgr w = none ↔ 9 ≤ (idxField w).toNat ∨ dataField w ≠ 0#24 := by
  rw [← idxExists_eq_false_iff]
  cases hidx : idxExists (idxField w) <;> simp [decodeCfgr, hidx]

theorem decodeClrf_eq_some_iff {i : Instr} : decodeClrf w = some i ↔
    upperRestField w = 0#27 ∧ .clrf (bit0Field w) = i := by
  simp [decodeClrf]

theorem decodeClrf_eq_none_iff : decodeClrf w = none ↔ upperRestField w ≠ 0#27 := by
  simp [decodeClrf]

theorem decodeRd_eq_some_iff {i : Instr} : decodeRd w = some i ↔
    upperRestField w = 0#27 ∧ (if bit0Field w = true then .rdedge else .rdnow) = i := by
  unfold decodeRd
  split_ifs <;> simp [*]

theorem decodeRd_eq_none_iff : decodeRd w = none ↔ upperRestField w ≠ 0#27 := by
  unfold decodeRd
  split_ifs <;> simp [*]

end

/-! ### Encoder and decoder undo each other -/

theorem decode_encode_of_plain {a : BitVec 4} {i : Instr} (h : (a, i) ∈ plainCommands) : decode (encode i) = some i := by
  obtain ⟨-, henc⟩ := encode_of_plain h
  rw [henc, decode_of_plain (by simpa using h), decodePlain_eq_some_iff]
  simp

/-- No bit of a well-formed command is lost in its word (R74, R75, R85). -/
theorem decode_encode (i : Instr) (hi : i.wellFormed = true) : decode (encode i) = some i := by
  cases i with
  | nop => exact decode_encode_of_plain (a := 0x0#4) (by decide)
  | brk => exact decode_encode_of_plain (a := 0x2#4) (by decide)
  | evpop => exact decode_encode_of_plain (a := 0x3#4) (by decide)
  | evflush => exact decode_encode_of_plain (a := 0x4#4) (by decide)
  | status => exact decode_encode_of_plain (a := 0x5#4) (by decide)
  | tx8 d | tx16 d | tx24 d =>
    rw [encode, decode_of_opc_tx (opcField_append_rest ..), decodeTx_eq_some_iff, rsvField_append, lenField_append,
      dataField_append_lenField]
    simp
  | cfgw idx v =>
    rw [encode, decode_of_opc_cfgw (opcField_append ..), decodeCfgw_eq_some_iff, idxField_append, dataField_append]
    exact ⟨hi, rfl⟩
  | cfgr idx =>
    rw [encode, decode_of_opc_cfgr (opcField_append ..), decodeCfgr_eq_some_iff, idxField_append, dataField_append]
    exact ⟨⟨hi, rfl⟩, rfl⟩
  | clrf m =>
    rw [encode, decode_of_opc_clrf (opcField_append_rest ..), decodeClrf_eq_some_iff, upperRestField_append,
      bit0Field_append]
    simp
  | rdnow | rdedge =>
    rw [encode, decode_of_opc_rd (opcField_append_rest ..), decodeRd_eq_some_iff, upperRestField_append, bit0Field_append]
    simp

/-- A word that decodes is put together again from the fields the decoder read (R74, R76). -/
theorem encode_of_decode {w : Word} {i : Instr} (h : decode w = some i) : i.wellFormed = true ∧ encode i = w := by
  obtain ⟨j, hj, e⟩ | ⟨hopc, e⟩ | ⟨hopc, e⟩ | ⟨hopc, e⟩ | ⟨hopc, e⟩ | ⟨hopc, e⟩ | ⟨-, e⟩ := decode_cases w
  all_goals rw [e] at h
  · obtain ⟨hzero, rfl⟩ := decodePlain_eq_some_iff.1 h
    obtain ⟨hwf, henc⟩ := encode_of_plain hj
    exact ⟨hwf, henc.trans (append_eq_of_fields rfl hzero)⟩
  · obtain ⟨hrsv, ⟨hlen, rfl⟩ | ⟨hlen, rfl⟩ | ⟨hlen, rfl⟩⟩ := decodeTx_eq_some_iff.1 h
    all_goals
      refine ⟨rfl, append_eq_of_fields hopc ?_⟩
      rw [← rsvField_append_lenField_append_dataField, hrsv, hlen]
  · obtain ⟨hidx, rfl⟩ := decodeCfgw_eq_some_iff.1 h
    exact ⟨hidx, append_eq_of_fields hopc (idxField_append_dataField w).symm⟩
  · obtain ⟨⟨hidx, hzero⟩, rfl⟩ := decodeCfgr_eq_some_iff.1 h
    refine ⟨hidx, append_eq_of_fields hopc ?_⟩
    rw [← idxField_append_dataField, hzero]
  · obtain ⟨hzero, rfl⟩ := decodeClrf_eq_some_iff.1 h
    refine ⟨rfl, append_eq_of_fields hopc ?_⟩
    rw [← upperRestField_append_bit0Field, hzero]
  · obtain ⟨hzero, rfl⟩ := decodeRd_eq_some_iff.1 h
    have hrest := upperRestField_append_bit0Field w
    rw [hzero] at hrest
    cases hsel : bit0Field w <;> rw [hsel] at hrest <;> exact ⟨rfl, append_eq_of_fields hopc hrest.symm⟩
  · cases h

/-- A word stands for the command whose word it is (R76). -/
theorem decode_eq_some_iff {w : Word} {i : Instr} : decode w = some i ↔ i.wellFormed = true ∧ encode i = w := by
  refine ⟨encode_of_decode, ?_⟩
  rintro ⟨hi, rfl⟩
  exact decode_encode i hi

/-! ### The ILLEGAL words -/

/-- The ILLEGAL words (R76). -/
theorem decode_eq_none_iff (w : Word) : decode w = none ↔
    0xA ≤ (opcField w).toNat
      ∨ (opcField w = 0x1#4 ∧ lenField w = 3#2)
      ∨ ((opcField w = 0x6#4 ∨ opcField w = 0x7#4) ∧ 9 ≤ (idxField w).toNat)
      ∨ ((opcField w).toNat ∈ [0x0, 0x2, 0x3, 0x4, 0x5] ∧ restField w ≠ 0#28)
      ∨ (opcField w = 0x1#4 ∧ rsvField w ≠ 0#2)
      ∨ (opcField w = 0x7#4 ∧ dataField w ≠ 0#24)
      ∨ ((opcField w = 0x8#4 ∨ opcField w = 0x9#4) ∧ upperRestField w ≠ 0#27) := by
  obtain ⟨j, hj, e⟩ | ⟨h, e⟩ | ⟨h, e⟩ | ⟨h, e⟩ | ⟨h, e⟩ | ⟨h, e⟩ | ⟨h, e⟩ := decode_cases w
  all_goals rw [e]
  · have hmem := (exists_plain_iff _).1 ⟨j, hj⟩
    have hother := opc_plain_excludes _ hmem
    rw [decodePlain_eq_none_iff]
    simp [-List.mem_cons, hmem, hother]
  · simp [h, decodeTx_eq_none_iff]
  · simp [h, decodeCfgw_eq_none_iff]
  · simp [h, decodeCfgr_eq_none_iff]
  · simp [h, decodeClrf_eq_none_iff]
  · simp [h, decodeRd_eq_none_iff]
  · simp [h]

section
variable {w : Word} {a : BitVec 4} {i : Instr}

/-- A command without operands has one word (R76). -/
theorem decode_eq_plain_iff (h : (a, i) ∈ plainCommands) : decode w = some i ↔ w = a ++ 0#28 := by
  obtain ⟨hwf, henc⟩ := encode_of_plain h
  rw [decode_eq_some_iff, henc]
  exact ⟨fun ⟨_, e⟩ => e.symm, fun e => ⟨hwf, e.symm⟩⟩

/-- The other words with the OPC of a command without operands are ILLEGAL (R76). -/
theorem decode_eq_none_of_plain (h : (a, i) ∈ plainCommands) (hopc : opcField w = a) (hrest : restField w ≠ 0#28) :
    decode w = none := by
  subst hopc
  rw [decode_of_plain h, decodePlain_eq_none_iff]
  exact hrest

end

end Sys2Proof
end

section
/-! PROOFS. The statements about the command word (30_encoding.md R74 to R76), the step on an ILLEGAL word (R76), and the
words the spec writes out (R85, R86). -/

namespace Sys2Proof.Machine

/-- Settles O1: the word of each command is read by the reader of its OPC, and that reader's fields are the operands. -/
theorem decodeOfEncode : Obligations.DecodeOfEncode := decode_encode

/-- Settles O2: the fields a reader takes from a word, with those it tests, are all of the word. -/
theorem encodeOfDecode : Obligations.EncodeOfDecode := fun _ _ => encode_of_decode

theorem commandStep_of_decode_none {w : Word} (h : decode w = none) (s : State) :
    commandStep w s = .next (raise .illegal s) := by
  rw [commandStep, h]

/-- Settles O3: the readers refuse a word under R76's conditions only, and an ILLEGAL word runs no command. -/
theorem reservedWordsAnswerIllegal : Obligations.ReservedWordsAnswerIllegal := by
  unfold Obligations.ReservedWordsAnswerIllegal
  intro w
  refine ⟨decode_eq_none_iff w, fun s rest hin hdec => ?_⟩
  rw [step_of_inputs hin, runInput, commandStep_of_decode_none hdec]
  rfl

/-- Settles O4: the decoder evaluated on ten fixed words. -/
theorem specWordsDecode : Obligations.SpecWordsDecode := by
  unfold Obligations.SpecWordsDecode
  decide

/-- The word of TX8, TX16 and TX24 with shifts and ors (R85); `l` is LEN. -/
theorem tx_append_eq_or (l : BitVec 2) (d : Reg24) :
    0x1#4 ++ (0#2 ++ (l ++ d)) = 0x10000000#32 ||| (l.setWidth 32 <<< 24) ||| d.setWidth 32 := by
  rw [← BitVec.setWidth_eq (0x1#4 ++ _)]
  iterate 3 rw [BitVec.setWidth_append_eq_shiftLeft_setWidth_or]
  simp [BitVec.or_assoc]

/-- The word of CFGW and CFGR with shifts and ors (R85); `a` is OPC. -/
theorem cfg_append_eq_or (a idx : BitVec 4) (v : Reg24) :
    a ++ (idx ++ v) = (a.setWidth 32 <<< 28) ||| (idx.setWidth 32 <<< 24) ||| v.setWidth 32 := by
  rw [← BitVec.setWidth_eq (a ++ _)]
  iterate 2 rw [BitVec.setWidth_append_eq_shiftLeft_setWidth_or]
  simp [BitVec.or_assoc]

theorem encode_clrf_eq_or (m : Bool) : encode (.clrf m) = 0x80000000#32 ||| BitVec.ofNat 32 m.toNat := by
  cases m <;> rfl

/-- Settles O5: fields side by side are fields shifted and joined by ors. -/
theorem assemblerWords : Obligations.AssemblerWords := by
  unfold Obligations.AssemblerWords
  intro d idx m
  exact ⟨tx_append_eq_or 0 d, tx_append_eq_or 1 d, tx_append_eq_or 2 d, cfg_append_eq_or 6 idx d,
    (cfg_append_eq_or 7 idx 0).trans BitVec.or_zero, encode_clrf_eq_or m⟩

end Sys2Proof.Machine
end

section
/-! PROOFS. The fields of the status word (30_encoding.md R81) and of the event words (R78 to R80). -/

namespace Sys2Proof.Machine

/-! ### The status word -/

section
variable (s : State)

theorem txBusy_iff : s.txBusy = true ↔ ∃ d n k, s.txseq = .send d n k := by
  cases hseq : s.txseq <;> simp [State.txBusy, hseq]

theorem breakActive_iff : s.breakActive = true ↔ ∃ r, s.txseq = .brk r := by
  cases hseq : s.txseq <;> simp [State.breakActive, hseq]

theorem capRun_iff : s.capRun = true ↔ ∃ p l n, s.cap = .run p l n := by
  cases hcap : s.cap <;> simp [State.capRun, hcap]

theorem Level.bit_iff (l : Level) : l.bit = true ↔ l = .active := by
  cases l <;> simp [Level.bit]

theorem gapOk_iff : s.gapOk = true ↔ s.line = .idle ∧
    (if s.lastKind = .fwd then s.cfg.gapFwdTicks.toNat else s.cfg.gapBwdTicks.toNat) ≤ s.idleCnt.toNat := by
  simp [State.gapOk, gapTicks_eq]

theorem irq_iff : s.irq = true ↔ s.cfg.ctrl.getLsbD 1 = true ∧ s.evq ≠ [] := by
  simp [State.irq, State.irqEn]

/-- Bits 7:0 of the status word, from bit 0 up (R81). -/
theorem statusFlags_getLsbD {i : Nat} (hi : i < 8) : s.statusFlags.getLsbD i =
    [s.en, s.txBusy, s.breakActive, s.pending.valid, s.line.bit, s.gapOk, s.capRun, s.evqOvf][i] := by
  simp only [State.statusFlags, BitVec.getLsbD_append]
  interval_cases i <;> simp

theorem statusWord_getLsbD_flags {i : Nat} (hi : i < 8) : s.statusWord.getLsbD i = s.statusFlags.getLsbD i := by
  simp only [State.statusWord, BitVec.getLsbD_append]
  interval_cases i <;> simp

theorem statusWord_getLsbD_irq : s.statusWord.getLsbD 24 = s.irq := by
  simp only [State.statusWord, BitVec.getLsbD_append]
  simp

/-- The fields of the status word above its flags (R81). -/
theorem statusWord_fields :
    s.statusWord.extractLsb' 8 2 = s.lastKind.code ∧ s.statusWord.extractLsb' 10 2 = 0#2
      ∧ s.statusWord.extractLsb' 12 4 = BitVec.ofNat 4 s.txq.length
      ∧ s.statusWord.extractLsb' 16 8 = BitVec.ofNat 8 s.evq.length ∧ s.statusWord.extractLsb' 25 7 = 0#7 := by
  unfold State.statusWord
  refine ⟨?_, ?_, ?_, ?_, ?_⟩
  all_goals
    repeat rw [BitVec.extractLsb'_append_eq_of_add_le (by decide)]
    exact BitVec.extractLsb'_append_eq_left

end

/-- Settles O15: STATUS is the plain command of OPC 5, and each bit of its answer is the state's own. -/
theorem statusWordByRule : Obligations.StatusWordByRule := by
  unfold Obligations.StatusWordByRule
  have hplain : (0x5#4, Instr.status) ∈ plainCommands := by decide
  refine ⟨fun _ => decode_eq_plain_iff hplain, fun _ => decode_eq_none_of_plain hplain,
    fun s => ⟨s.statusWord, rfl, ?_⟩⟩
  have hflag {i : Nat} (hi : i < 8) := (statusWord_getLsbD_flags s hi).trans (statusFlags_getLsbD s hi)
  obtain ⟨hkind, hzero, htxq, hevq, htop⟩ := statusWord_fields s
  simp only [hflag, Nat.reduceLT, statusWord_getLsbD_irq, hkind]
  refine ⟨rfl, txBusy_iff s, breakActive_iff s, rfl, Level.bit_iff s.line, gapOk_iff s, capRun_iff s, rfl, ?_, hzero, htxq,
    hevq, irq_iff s, htop⟩
  cases s.lastKind <;> rfl

/-! ### The event words -/

/-- An event word with shifts and ors (R78). -/
theorem packEvent_eq_or (type : BitVec 3) (info : BitVec 5) (data : Reg24) :
    packEvent type info data = (type.setWidth 32 <<< 29) ||| (info.setWidth 32 <<< 24) ||| data.setWidth 32 := by
  rw [← BitVec.setWidth_eq (packEvent type info data), packEvent]
  iterate 2 rw [BitVec.setWidth_append_eq_shiftLeft_setWidth_or]
  simp [BitVec.or_assoc]

/-- An event word whose DATA is a bit count in bits 5:0 (R79). -/
theorem packEvent_count_eq_or (type : BitVec 3) (info : BitVec 5) (n : BitVec 6) :
    packEvent type info (n.zeroExtend 24) =
      (type.setWidth 32 <<< 29) ||| (info.setWidth 32 <<< 24) ||| n.zeroExtend 32 := by
  rw [packEvent_eq_or]
  simp

/-- Settles O40, by the codes of R79 and R80; a count or value in DATA by the word with shifts and ors. -/
theorem eventWordFields : Obligations.EventWordFields := by
  unfold Obligations.EventWordFields
  refine ⟨fun len v => ?_, fun e => ?_, rfl, rfl, packEvent_count_eq_or 3 8, packEvent_eq_or 3 9,
    packEvent_count_eq_or 4 6, rfl, rfl⟩
  · cases len <;> exact ⟨rfl, rfl⟩
  · cases e <;> exact ⟨rfl, rfl⟩

end Sys2Proof.Machine
end

section
/-! PROOFS. The Manchester codec (40_manchester_codec.md R100 to R112), one function of Codec.lean at a time: the symbols of
a frame, the classification of a pulse, the pulse that ends a burst, and what stands at each position of the half-bits. -/

namespace Sys2Proof.Machine

/-! ### The symbols of a frame (R100) -/

@[simp] theorem dataSymbols_length (d n : Nat) : (dataSymbols d n).length = 2 * n := by
  induction n with
  | zero => rfl
  | succ n ih =>
    rw [dataSymbols, List.length_append, ih]
    split <;> simp <;> omega

theorem dataSymbols_succ (d n : Nat) :
    dataSymbols d (n + 1) = (if d.testBit n then .active else .idle) :: (if d.testBit n then .idle else .active)
      :: dataSymbols d n := by
  rw [dataSymbols]
  split <;> rfl

/-- The two half-bits at position `i` are those of bit `n - 1 - i`. -/
theorem dataSymbols_getElem? (d : Nat) {n i : Nat} (hi : i < n) :
    (dataSymbols d n)[2 * i]? = some (if d.testBit (n - 1 - i) then .active else .idle)
      ∧ (dataSymbols d n)[2 * i + 1]? = some (if d.testBit (n - 1 - i) then .idle else .active) := by
  induction n generalizing i with
  | zero => omega
  | succ n ih =>
    rw [dataSymbols_succ]
    cases i with
    | zero => exact ⟨rfl, rfl⟩
    | succ i =>
      rw [show n + 1 - 1 - (i + 1) = n - 1 - i by omega]
      exact ih (by omega)

@[simp] theorem encodeFrame_length (d n : Nat) : (encodeFrame d n).length = 2 * n + 4 := by
  simp [encodeFrame]

/-- Behind the start bit, the data bits. -/
theorem encodeFrame_getElem?_data (d : Nat) {n j : Nat} (hj : j < 2 * n) :
    (encodeFrame d n)[j + 2]? = (dataSymbols d n)[j]? :=
  List.getElem?_append_left (l₁ := dataSymbols d n) (by simpa using hj)

/-- Behind the data bits, the stop condition. -/
theorem encodeFrame_getElem?_stop (d n j : Nat) :
    (encodeFrame d n)[2 * n + j + 2]? = ([.idle, .idle] : List Level)[j]? := by
  have h := List.getElem?_append_right (l₁ := dataSymbols d n) (l₂ := [.idle, .idle]) (i := 2 * n + j) (by simp)
  simpa [encodeFrame] using h

/-! ### The classification of a pulse (R103) -/

/-- R103's two bands, written with the integers' absolute value. -/
theorem classify_eq (c : CfgFile) (d : Nat) :
    classify c d =
      if 100 * |(d : Int) - c.teTicks.toNat| ≤ (c.tolPct.toNat : Int) * c.teTicks.toNat then .one
      else if 100 * |(d : Int) - 2 * c.teTicks.toNat| ≤ 2 * (c.tolPct.toNat : Int) * c.teTicks.toNat then .two
      else .bad := by
  have h1 := absDiff_eq_abs d c.teTicks.toNat
  have h2 := absDiff_eq_abs d (2 * c.teTicks.toNat)
  push_cast at h2
  rw [← h1, ← h2, classify]
  norm_cast

theorem classify_eq_one_iff (c : CfgFile) (d : Nat) : classify c d = .one ↔
    100 * |(d : Int) - c.teTicks.toNat| ≤ (c.tolPct.toNat : Int) * c.teTicks.toNat := by
  rw [classify_eq]
  split_ifs with h1 <;> simp [h1]

theorem classify_eq_two_iff (c : CfgFile) (d : Nat) : classify c d = .two ↔
    ¬ 100 * |(d : Int) - c.teTicks.toNat| ≤ (c.tolPct.toNat : Int) * c.teTicks.toNat
      ∧ 100 * |(d : Int) - 2 * c.teTicks.toNat| ≤ 2 * (c.tolPct.toNat : Int) * c.teTicks.toNat := by
  rw [classify_eq]
  split_ifs with h1 h2
  · simp [h1]
  · simp [h1, h2]
  · simp [h2]

theorem classify_eq_bad_iff (c : CfgFile) (d : Nat) : classify c d = .bad ↔
    ¬ 100 * |(d : Int) - c.teTicks.toNat| ≤ (c.tolPct.toNat : Int) * c.teTicks.toNat
      ∧ ¬ 100 * |(d : Int) - 2 * c.teTicks.toNat| ≤ 2 * (c.tolPct.toNat : Int) * c.teTicks.toNat := by
  rw [classify_eq]
  split_ifs with h1 h2
  · simp [h1]
  · simp [h2]
  · simp [h1, h2]

/-- R104: with TOL_PCT up to 33 the bands around TE and 2 x TE share no duration. -/
theorem bands_disjoint {te tol d : Int} (hte : 1 ≤ te) (htol : tol ≤ 33) (h1 : 100 * |d - te| ≤ tol * te) :
    ¬ 100 * |d - 2 * te| ≤ 2 * tol * te := by
  have hle : tol * te ≤ 33 * te := mul_le_mul_of_nonneg_right htol (by omega)
  rw [mul_assoc, Int.abs_eq_natAbs]
  rw [Int.abs_eq_natAbs] at h1
  omega

/-- R104: with TOL_PCT = 0 a band holds its nominal duration only. -/
theorem band_of_zero_tolerance (x te : Int) : 100 * |x| ≤ 0 * te ↔ x = 0 := by
  rw [zero_mul, Int.abs_eq_natAbs]
  omega

/-- R107: the half-bits of one pulse, by R103's bands. -/
theorem pulseHalfBits_eq (c : CfgFile) (p : Pulse) :
    pulseHalfBits c p =
      if 100 * |(p.2 : Int) - c.teTicks.toNat| ≤ (c.tolPct.toNat : Int) * c.teTicks.toNat then [.level p.1]
      else if 100 * |(p.2 : Int) - 2 * c.teTicks.toNat| ≤ 2 * (c.tolPct.toNat : Int) * c.teTicks.toNat then
        [.level p.1, .level p.1]
      else [.bad] := by
  rw [pulseHalfBits, classify_eq]
  split_ifs <;> rfl

/-! ### The terminating pulse of a burst (R105) -/

section
variable {c : CfgFile} {p : Pulse} {body rest : List Pulse} {d : Nat}

theorem isLongIdle_iff : isLongIdle c p = true ↔ p.1 = .idle ∧ c.longIdleTicks.toNat ≤ p.2 := by
  simp [isLongIdle]

theorem isBusFailure_iff : isBusFailure c p = true ↔ p.1 = .active ∧ c.busFailTicks.toNat ≤ p.2 := by
  simp [isBusFailure]

theorem isBusFailure_idle : isBusFailure c (.idle, d) = false := rfl

theorem findIdx?_isLongIdle_eq_none (hbody : ∀ p ∈ body, ¬ (p.1 = .idle ∧ c.longIdleTicks.toNat ≤ p.2)) :
    body.findIdx? (isLongIdle c) = none := by
  rw [List.findIdx?_eq_none_iff]
  exact fun p hp => Bool.eq_false_iff.mpr fun h => hbody p hp (isLongIdle_iff.mp h)

theorem terminatingIndex_longIdle (hbody : ∀ p ∈ body, ¬ (p.1 = .idle ∧ c.longIdleTicks.toNat ≤ p.2))
    (hd : c.longIdleTicks.toNat ≤ d) : terminatingIndex c (body ++ (.idle, d) :: rest) = some body.length := by
  have hlong : isLongIdle c (.idle, d) = true := isLongIdle_iff.mpr ⟨rfl, hd⟩
  simp [terminatingIndex, List.findIdx?_append, findIdx?_isLongIdle_eq_none hbody, List.findIdx?_cons, hlong]

/-- A last idle pulse ends the burst whether it is long or not. -/
theorem terminatingIndex_lastIdle (hbody : ∀ p ∈ body, ¬ (p.1 = .idle ∧ c.longIdleTicks.toNat ≤ p.2)) (d : Nat) :
    terminatingIndex c (body ++ [(.idle, d)]) = some body.length := by
  by_cases hd : c.longIdleTicks.toNat ≤ d
  · exact terminatingIndex_longIdle hbody hd
  · have hshort : isLongIdle c (.idle, d) = false := Bool.eq_false_iff.mpr fun h => hd (isLongIdle_iff.mp h).2
    simp [terminatingIndex, List.findIdx?_append, findIdx?_isLongIdle_eq_none hbody, List.findIdx?_cons, hshort,
      lastIdleIndex]

theorem terminatingIndex_eq_none (hbody : ∀ p ∈ body, ¬ (p.1 = .idle ∧ c.longIdleTicks.toNat ≤ p.2))
    (hlast : ∀ p ∈ body.getLast?, p.1 = .active) : terminatingIndex c body = none := by
  rw [terminatingIndex, findIdx?_isLongIdle_eq_none hbody]
  cases h : body.getLast? with
  | none => simp [lastIdleIndex, h]
  | some p => simp [lastIdleIndex, h, hlast p h]

/-! ### What a burst decodes to, by its first and its terminating pulse (R105, R106) -/

theorem decodeBurst_busFailure (rest : List Pulse) (h : isBusFailure c p = true) :
    decodeBurst c (p :: rest) = .busFail := by
  simp [decodeBurst, h]

/-- R106: a burst whose BODY is empty. -/
theorem decodeBurst_noFrame (hp : isBusFailure c p = false) (h : terminatingIndex c (p :: rest) = some 0) :
    decodeBurst c (p :: rest) = .noFrame := by
  simp [decodeBurst, hp, h]

theorem decodeBurst_terminated (hne : body ≠ []) (hfirst : ∀ p ∈ body.head?, isBusFailure c p = false)
    (h : terminatingIndex c (body ++ rest) = some body.length) :
    decodeBurst c (body ++ rest) = decodeHalfBits (halfBits c body) true := by
  obtain ⟨p, more, rfl⟩ := List.exists_cons_of_ne_nil hne
  rw [List.cons_append] at h ⊢
  have hp : isBusFailure c p = false := hfirst p rfl
  simp [decodeBurst, bodyOf, hp, h]

theorem decodeBurst_unterminated (hne : body ≠ []) (hfirst : ∀ p ∈ body.head?, isBusFailure c p = false)
    (h : terminatingIndex c body = none) : decodeBurst c body = decodeHalfBits (halfBits c body) false := by
  obtain ⟨p, more, rfl⟩ := List.exists_cons_of_ne_nil hne
  have hp : isBusFailure c p = false := hfirst p rfl
  simp [decodeBurst, bodyOf, hp, h]

/-- Only the half-bits can give a frame. -/
theorem decodeHalfBits_of_decodeBurst_eq_frame {burst : List Pulse} {v n : Nat}
    (h : decodeBurst c burst = .frame v n) :
    decodeHalfBits (halfBits c (bodyOf c burst)) (terminatingIndex c burst).isSome = .frame v n := by
  cases burst with
  | nil => cases h
  | cons p rest =>
    rw [decodeBurst] at h
    split_ifs at h
    exact h

end

/-! ### The half-bits position by position (R107 to R111) -/

section
variable {h : List HalfBit} {t : Bool} {fuel i n v : Nat}

@[simp] theorem halfAt_cons_succ (x : HalfBit) (h : List HalfBit) (t : Bool) (i : Nat) :
    halfAt (x :: h) t (i + 1) = halfAt h t i := rfl
theorem halfAt_past_end (t : Bool) (hi : h.length ≤ i) : halfAt h t i = if t then .level .idle else .ended := by
  simp [halfAt, List.getElem?_eq_none hi]

theorem decodeBits_bit {b : Bool} (hp : pairEval (halfAt h t i) (halfAt h t (i + 1)) = .bit b) :
    decodeBits h t (fuel + 1) i n v = decodeBits h t fuel (i + 2) (n + 1) (2 * v + b.toNat) := by
  rw [decodeBits, hp]

theorem decodeBits_stop (hp : pairEval (halfAt h t i) (halfAt h t (i + 1)) = .stop) :
    decodeBits h t (fuel + 1) i n v = if i + 2 < h.length then .err .trailing else .frame v n := by
  rw [decodeBits, hp]

theorem decodeBits_err {e : FramingError} (hp : pairEval (halfAt h t i) (halfAt h t (i + 1)) = .err e) :
    decodeBits h t (fuel + 1) i n v = .err e := by
  rw [decodeBits, hp]

/-- R110: behind the half-bits the terminating idle reads as a stop of its own. -/
theorem decodeBits_past_end (hi : h.length ≤ i) : decodeBits h true fuel i n v = .frame v n := by
  cases fuel with
  | zero => rfl
  | succ fuel =>
    have hp : pairEval (halfAt h true i) (halfAt h true (i + 1)) = .stop := by
      rw [halfAt_past_end true hi, halfAt_past_end true (by omega : h.length ≤ i + 1)]
      rfl
    rw [decodeBits_stop hp, if_neg (by omega)]

/-- Reading on from a position depends on what stands from there on only. -/
theorem decodeBits_cons_cons (x y : HalfBit) :
    decodeBits (x :: y :: h) t fuel (i + 2) n v = decodeBits h t fuel i n v := by
  induction fuel generalizing i n v with
  | zero => rfl
  | succ fuel ih =>
    simp only [decodeBits, halfAt_cons_succ, List.length_cons, add_lt_add_iff_right, ih]

theorem decodeBits_bounds {v' n' : Nat} (hv : v < 2 ^ n) (hf : decodeBits h t fuel i n v = .frame v' n') :
    n' ≤ n + fuel ∧ v' < 2 ^ n' := by
  induction fuel generalizing i n v with
  | zero =>
    obtain ⟨rfl, rfl⟩ := DecodeResult.frame.inj hf
    exact ⟨le_rfl, hv⟩
  | succ fuel ih =>
    cases hp : pairEval (halfAt h t i) (halfAt h t (i + 1)) with
    | bit b =>
      rw [decodeBits_bit hp] at hf
      have hv' : 2 * v + b.toNat < 2 ^ (n + 1) := by
        have := b.toNat_lt
        rw [pow_succ]
        omega
      obtain ⟨hn, hlt⟩ := ih hv' hf
      exact ⟨by omega, hlt⟩
    | stop =>
      rw [decodeBits_stop hp] at hf
      split_ifs at hf
      obtain ⟨rfl, rfl⟩ := DecodeResult.frame.inj hf
      exact ⟨by omega, hv⟩
    | err e =>
      rw [decodeBits_err hp] at hf
      cases hf

/-! ### Data bits and the start bit -/

/-- R110: the symbols of `k` data bits are collected most significant first. -/
theorem decodeBits_dataSymbols (d k : Nat) (tail : List HalfBit) :
    decodeBits ((dataSymbols d k).map .level ++ tail) t (fuel + k) 0 n v
      = decodeBits tail t fuel 0 (n + k) (2 ^ k * v + d % 2 ^ k) := by
  induction k generalizing n v with
  | zero => simp [dataSymbols, Nat.mod_one]
  | succ k ih =>
    have hvalue : 2 ^ k * (2 * v + (d.testBit k).toNat) + d % 2 ^ k = 2 ^ (k + 1) * v + d % 2 ^ (k + 1) := by
      rw [Nat.mod_pow_succ, ← Nat.toNat_testBit]
      ring
    rw [dataSymbols_succ, ← Nat.add_assoc, decodeBits_bit (b := d.testBit k)]
    · rw [List.map_cons, List.map_cons, List.cons_append, List.cons_append, decodeBits_cons_cons, ih, hvalue,
        Nat.add_right_comm, Nat.add_assoc n]
    · cases d.testBit k <;> rfl

theorem decodeHalfBits_start (h : List HalfBit) (t : Bool) :
    decodeHalfBits (.level .active :: .level .idle :: h) t = decodeBits h t Config.maxBits 0 0 0 :=
  decodeBits_cons_cons _ _

theorem decodeHalfBits_start_dataSymbols {d : Nat} (hd : d < 2 ^ n) (hn : n ≤ Config.maxBits) (t : Bool)
    (tail : List HalfBit) :
    decodeHalfBits (.level .active :: .level .idle :: ((dataSymbols d n).map .level ++ tail)) t
      = decodeBits tail t (Config.maxBits - n) 0 n d := by
  have h := decodeBits_dataSymbols (t := t) (fuel := Config.maxBits - n) (n := 0) (v := 0) d n tail
  rw [Nat.sub_add_cancel hn] at h
  rw [decodeHalfBits_start, h, Nat.mod_eq_of_lt hd]
  simp

/-- R109: a frame is decoded only behind a start bit. -/
theorem decodeBits_of_decodeHalfBits_eq_frame (hf : decodeHalfBits h t = .frame v n) :
    decodeBits h t Config.maxBits 2 0 0 = .frame v n := by
  rw [decodeHalfBits] at hf
  split at hf
  case h_1 => exact hf
  all_goals cases hf

end

end Sys2Proof.Machine
end

section
/-! PROOFS. The statements about the codec (40_manchester_codec.md R100 to R112). -/

namespace Sys2Proof.Machine

/-- Settles O34: the start bit and the stop condition stand around the data bits, and those are read off position by
position. -/
theorem frameSymbolsMsbFirst : Obligations.FrameSymbolsMsbFirst := by
  unfold Obligations.FrameSymbolsMsbFirst
  intro d n
  refine ⟨rfl, rfl, fun i hi => ?_, encodeFrame_getElem?_stop d n 0, encodeFrame_getElem?_stop d n 1,
    List.getElem?_eq_none (encodeFrame_length d n).le⟩
  obtain ⟨hfirst, hsecond⟩ := dataSymbols_getElem? d hi
  rw [← hfirst, ← hsecond, ← encodeFrame_getElem?_data d (by omega : 2 * i < 2 * n),
    ← encodeFrame_getElem?_data d (by omega : 2 * i + 1 < 2 * n)]
  exact ⟨by rw [Nat.add_comm], by congr 1; omega⟩

/-- Settles O35: the first and the terminating pulse decide the early results, and each collected bit doubles the bound
on the value. -/
theorem decodeBoundsAndEmptyBursts : Obligations.DecodeBoundsAndEmptyBursts := by
  unfold Obligations.DecodeBoundsAndEmptyBursts
  intro c
  have hempty : ∀ p ∈ ([] : List Pulse), ¬ (p.1 = .idle ∧ c.longIdleTicks.toNat ≤ p.2) := by simp
  refine ⟨rfl, fun d rest hd => ?_, fun d rest hd => ?_, fun d => ?_, fun burst v n hf => ?_⟩
  · exact decodeBurst_busFailure rest (isBusFailure_iff.mpr ⟨rfl, hd⟩)
  · exact decodeBurst_noFrame isBusFailure_idle (terminatingIndex_longIdle hempty hd)
  · exact decodeBurst_noFrame isBusFailure_idle (terminatingIndex_lastIdle hempty d)
  · have hbits := decodeBits_of_decodeHalfBits_eq_frame (decodeHalfBits_of_decodeBurst_eq_frame hf)
    obtain ⟨hn, hv⟩ := decodeBits_bounds Nat.one_pos hbits
    exact ⟨by simpa [Config.maxBits] using hn, hv⟩

/-- Settles O36: at position 0 by the first two half-bits; behind `n` data bits by the tail alone, read with `32 - n` bits
still to collect. -/
theorem decodeOutcomeByNextPosition : Obligations.DecodeOutcomeByNextPosition := by
  unfold Obligations.DecodeOutcomeByNextPosition
  constructor
  · intro t rest
    refine ⟨rfl, fun l => ?_, fun b => ?_, rfl, fun l => ?_, rfl, ?_⟩
    · cases l <;> rfl
    · cases b <;> rfl
    · cases l <;> rfl
    · exact decodeBits_past_end (by simp)
  · intro d n t tail hd result
    constructor
    · rintro rfl
      exact decodeHalfBits_start_dataSymbols hd le_rfl t tail
    · intro hn
      obtain ⟨fuel, hfuel⟩ : ∃ fuel, Config.maxBits - n = fuel + 1 := ⟨31 - n, by simp only [Config.maxBits]; omega⟩
      have hresult : result = decodeBits tail t (fuel + 1) 0 n d := by
        rw [← hfuel]
        exact decodeHalfBits_start_dataSymbols hd hn.le t tail
      rw [hresult]
      refine ⟨?badFirst, ?badSecond, ?badSymbol, ?stop, ?trailing, ?noStop, ?idleBehind, ?lastActive⟩
      case badFirst => rintro rest rfl; exact decodeBits_err rfl
      case badSecond => rintro l rest rfl; exact decodeBits_err (by cases l <;> rfl)
      case badSymbol => rintro rest rfl; exact decodeBits_err rfl
      case stop => rintro rfl; exact decodeBits_stop rfl
      case trailing => rintro x rest rfl; rw [decodeBits_stop rfl, if_pos (by simp)]
      case noStop =>
        rintro rfl (rfl | ⟨l, rfl⟩)
        · exact decodeBits_err rfl
        · exact decodeBits_err (by cases l <;> rfl)
      case idleBehind =>
        rintro rfl (rfl | rfl)
        · exact decodeBits_past_end (by simp)
        · exact decodeBits_stop rfl
      case lastActive =>
        rintro rfl rfl
        rw [decodeBits_bit (b := true) rfl]
        exact decodeBits_past_end (by simp)

/-- Settles O60: the terminating pulse is the one behind `body`, and each pulse of `body` gives the half-bits of its
band. -/
theorem burstReadAsHalfBits : Obligations.BurstReadAsHalfBits := by
  unfold Obligations.BurstReadAsHalfBits
  intro c body te tol expand hne hfirst hbody
  have hhalf : halfBits c body = body.flatMap expand :=
    congrArg (fun f => body.flatMap f) (funext (pulseHalfBits_eq c))
  have hfirst' : ∀ p ∈ body.head?, isBusFailure c p = false := fun p hp =>
    Bool.eq_false_iff.mpr fun h => hfirst p hp (isBusFailure_iff.mp h)
  rw [← hhalf]
  refine ⟨fun d rest hd => ?_, fun d => ?_, fun hlast => ?_⟩
  · exact decodeBurst_terminated hne hfirst' (terminatingIndex_longIdle hbody hd)
  · exact decodeBurst_terminated hne hfirst' (terminatingIndex_lastIdle hbody d)
  · exact decodeBurst_unterminated hne hfirst' (terminatingIndex_eq_none hbody hlast)

/-- Settles O32: the classes are the bands themselves, and the bands meet only where the tolerance lets them. -/
theorem toleranceBandsDisjoint : Obligations.ToleranceBandsDisjoint := by
  unfold Obligations.ToleranceBandsDisjoint
  intro c te tol
  refine ⟨fun d => ⟨classify_eq_one_iff c d, classify_eq_bad_iff c d⟩, fun hte htol d => ?_, fun hte htol d => ?_⟩
  · have hdisjoint := bands_disjoint (d := d) hte htol
    have htwo : classify c d = .two ↔ 100 * |(d : Int) - 2 * te| ≤ 2 * tol * te :=
      (classify_eq_two_iff c d).trans (and_iff_right_of_imp fun h2 h1 => hdisjoint h1 h2)
    exact ⟨htwo, fun ⟨h1, h2⟩ => hdisjoint h1 h2⟩
  · have hzero : (c.tolPct.toNat : Int) = 0 := htol
    rw [classify_eq_one_iff, classify_eq_two_iff, hzero, mul_zero, band_of_zero_tolerance, band_of_zero_tolerance]
    omega

end Sys2Proof.Machine
end

section
/-! PROOFS. The comparator (41_collision_detector.md R130 to R136): what resolving a burst does for each result of the
decoder, with an outcome pending and with none. -/

namespace Sys2Proof.Machine

section
variable {s : State} {burst : List CapPulse} {v n : Nat}

/-! ### An outcome pending -/

theorem resolve_of_pending (hpv : s.pending.valid = true) :
    resolve burst s = resolvePending (decodeBurst s.cfg (burst.map CapPulse.pulse)) s := by
  rw [resolve, resolveResult, if_pos hpv]

/-- The end of a pending transmission as one update of the state: the event, PV = 0 and LAST_KIND (R132 to R134). -/
theorem closePending_setKind_emit (ev : Event) (k : Kind) (s : State) :
    closePending (setKind k (emit ev s)) = { emit ev s with
      pending := { s.pending with valid := false }, lastKind := k, txseq := s.txseq } := by
  obtain ⟨-, e⟩ | ⟨-, e⟩ := emit_cases ev s <;> rw [e] <;> rfl

/-- The same after a bus failure, which also stops a frame being sent (R131). -/
theorem resolvePending_busFail (s : State) :
    resolvePending .busFail s = { emit (.busFailure true) s with
      pending := { s.pending with valid := false }, lastKind := .unknown, txseq := s.txseq.stopSend } :=
  congrArg stopSending (closePending_setKind_emit (.busFailure true) .unknown s)

theorem resolveEcho_of_len_ne (h : n ≠ s.pending.len.bits) :
    resolveEcho v n s = collide (.lenMismatch (BitVec.ofNat 6 n)) s := if_pos h

theorem resolveEcho_of_data_ne (h : v ≠ s.pending.data.toNat) :
    resolveEcho v s.pending.len.bits s = collide (.dataMismatch (BitVec.ofNat 24 v)) s := by
  rw [resolveEcho, if_neg (not_not.mpr rfl), if_pos h]

theorem resolveEcho_self (s : State) : resolveEcho s.pending.data.toNat s.pending.len.bits s =
    closePending (setKind s.pending.len.kind (emit (.txCompleted s.pending.len s.pending.data) s)) := by
  rw [resolveEcho, if_neg (not_not.mpr rfl), if_neg (not_not.mpr rfl)]

/-- A burst resolved against the descriptor queues one event, and never the echo timer's (R131 to R134, R139). -/
theorem resolvePending_evq (r : DecodeResult) (s : State) :
    ∃ ev, ev ≠ .collisionDetected .echoTimeout ∧ (resolvePending r s).evq = (emit ev s).evq := by
  cases r with
  | noFrame => exact ⟨.collisionDetected .emptyEcho, by simp, rfl⟩
  | busFail => exact ⟨.busFailure true, by simp, rfl⟩
  | err e => exact ⟨.collisionDetected (.framing e), by simp, rfl⟩
  | frame v n =>
    simp only [resolvePending, resolveEcho]
    split
    · exact ⟨.collisionDetected (.lenMismatch (BitVec.ofNat 6 n)), by simp, rfl⟩
    · split
      · exact ⟨.collisionDetected (.dataMismatch (BitVec.ofNat 24 v)), by simp, rfl⟩
      · exact ⟨.txCompleted s.pending.len s.pending.data, by simp, rfl⟩

/-! ### Nothing pending -/

theorem resolve_of_not_pending (hpv : s.pending.valid = false) :
    resolve burst s = resolveIdle (decodeBurst s.cfg (burst.map CapPulse.pulse)) s := by
  rw [resolve, resolveResult, if_neg (by simp [hpv])]

theorem FrameLen.ofBits_eq_none (h8 : n ≠ 8) (h16 : n ≠ 16) (h24 : n ≠ 24) : FrameLen.ofBits n = none := by
  rw [FrameLen.ofBits, if_neg h8, if_neg h16, if_neg h24]

theorem receiveFrame_of_nonstandard (h : FrameLen.ofBits n = none) :
    receiveFrame v n s = emitUnknown (.frameError (.nonstandardLength (BitVec.ofNat 6 n))) s := by
  rw [receiveFrame, h]

end

/-! ### Either way -/

/-- No outcome is pending once a burst has been resolved (R131 to R135). -/
theorem resolve_pending_valid (b : List CapPulse) (s : State) : (resolve b s).pending.valid = false := by
  unfold resolve
  cases hpv : s.pending.valid
  · obtain e | ⟨_, _, -, e⟩ := resolveResult_nothing_pending (decodeBurst s.cfg (b.map CapPulse.pulse)) s hpv <;>
      simp [e, hpv]
  · obtain ⟨_, _, _, -, -, e⟩ := resolveResult_pending (decodeBurst s.cfg (b.map CapPulse.pulse)) s hpv
    simp [e]

/-- Resolving a burst can stop a frame being sent, and writes nothing else into TXSEQ (R131). -/
theorem resolve_txseq_cases (b : List CapPulse) (s : State) :
    (resolve b s).txseq = s.txseq ∨ (resolve b s).txseq = s.txseq.stopSend := by
  unfold resolve
  cases hpv : s.pending.valid
  · obtain e | ⟨_, _, -, e⟩ := resolveResult_nothing_pending (decodeBurst s.cfg (b.map CapPulse.pulse)) s hpv <;>
      simp [e]
  · obtain ⟨_, _, tx, -, htx | ⟨-, htx⟩, e⟩ :=
      resolveResult_pending (decodeBurst s.cfg (b.map CapPulse.pulse)) s hpv <;> simp [e, htx]

/-- The LAST_KIND a burst leaves depends on the registers, PENDING and the old LAST_KIND alone (R136). -/
theorem resolve_lastKind_congr (burst : List CapPulse) {s s' : State} (hc : s'.cfg = s.cfg)
    (hp : s'.pending = s.pending) (hk : s'.lastKind = s.lastKind) :
    (resolve burst s').lastKind = (resolve burst s).lastKind := by
  cases hpv : s.pending.valid
  · rw [resolve_of_not_pending hpv, resolve_of_not_pending (hp ▸ hpv), hc]
    cases decodeBurst s.cfg (burst.map CapPulse.pulse) with
    | noFrame => exact hk
    | busFail => rfl
    | err e => rfl
    | frame v n =>
      simp only [resolveIdle, receiveFrame]
      cases FrameLen.ofBits n <;> rfl
  · rw [resolve_of_pending hpv, resolve_of_pending (hp ▸ hpv), hc]
    cases decodeBurst s.cfg (burst.map CapPulse.pulse) with
    | noFrame => rfl
    | busFail => rfl
    | err e => rfl
    | frame v n =>
      simp only [resolvePending, resolveEcho, hp]
      split
      · rfl
      · split <;> rfl

/-! ### The statements -/

/-- Settles O37: result by result, each end of the descriptor is one update of the state. -/
theorem resolvePendingByRule : Obligations.ResolvePendingByRule := by
  unfold Obligations.ResolvePendingByRule
  intro s burst hpv r ends
  have hres : ∀ {d}, r = d → resolve burst s = resolvePending d s := fun hr => hr ▸ resolve_of_pending hpv
  have concludes : ∀ {d ev k}, r = d → resolvePending d s = closePending (setKind k (emit ev s)) →
      ends ev k s.txseq :=
    fun hr h => ⟨_, rfl, (hres hr).trans (h.trans (closePending_setKind_emit _ _ s))⟩
  refine ⟨fun hr => ⟨{ s.pending with valid := false }, rfl, ?_⟩, fun hr => concludes hr rfl,
    fun e hr => concludes hr rfl, fun v n hr hn => concludes hr (resolveEcho_of_len_ne hn),
    fun v hr hv => concludes hr (resolveEcho_of_data_ne hv), fun hr => ?_⟩
  · rw [hres hr, resolvePending_busFail]
    cases s.txseq <;> rfl
  · rw [← FrameLen.kind_eq]
    exact concludes hr (resolveEcho_self s)

/-- Settles O38: result by result; of a frame the length alone decides. -/
theorem resolveIdleByRule : Obligations.ResolveIdleByRule := by
  unfold Obligations.ResolveIdleByRule
  intro s burst hpv r ends
  have hres : ∀ {d}, r = d → resolve burst s = resolveIdle d s := fun hr => hr ▸ resolve_of_not_pending hpv
  exact ⟨hres, hres, fun e => hres, fun v => hres, fun v => hres, fun v => hres, fun v n hr h8 h16 h24 =>
    (hres hr).trans (receiveFrame_of_nonstandard (FrameLen.ofBits_eq_none h8 h16 h24))⟩

end Sys2Proof.Machine
end

section
/-! PROOFS. The capture unit and the echo timer (42_frame_driver.md R154 to R159): which ticks end a burst, what phases
4 and 5 leave at such a tick and at any other, and what of it a whole tick keeps. -/

namespace Sys2Proof.Machine

/-! ### The capture unit's phase -/

/-- The run `(p, lv, n)` becomes `(p', l, n')` at a tick that samples `l`: one tick longer, or completed and followed by
a new one (R155). -/
def RunStep (l : Level) (p : List CapPulse) (lv : Level) (n : Reg24) (p' : List CapPulse) (n' : Reg24) : Prop :=
  (l = lv ∧ p' = p ∧ n' = sat24 (n.toNat + 1)) ∨ (l ≠ lv ∧ p' = push80 p ⟨lv, n⟩ ∧ n' = 1)

/-- A tick that samples `l` ends the burst `burst` in phase 4 (R156, R157). -/
def BurstEnds (l : Level) (s : State) (burst : List CapPulse) : Prop :=
  ∃ p lv n p' n', s.cap = .run p lv n ∧ RunStep l p lv n p' n' ∧ burstLimit s.cfg l ≤ n'.toNat
    ∧ burst = push80 p' ⟨l, n'⟩

theorem eq_sat24_iff {x : Reg24} {k : Nat} : x = sat24 k ↔ x.toNat = min k (2 ^ 24 - 1) := by
  rw [← sat24_toNat, BitVec.toNat_inj]

section
variable {l lv : Level} {s : State} {p p' : List CapPulse} {n n' : Reg24} {burst : List CapPulse}

theorem burstLimit_le_iff {c : CfgFile} {k : Nat} : burstLimit c l ≤ k ↔
    (l = .idle ∧ c.longIdleTicks.toNat ≤ k) ∨ (l = .active ∧ c.busFailTicks.toNat ≤ k) := by
  cases l <;> simp [burstLimit]

theorem lt_burstLimit {c : CfgFile} {k : Nat} (hidle : l = .idle → k < c.longIdleTicks.toNat)
    (hactive : l = .active → k < c.busFailTicks.toNat) : k < burstLimit c l := by
  cases l
  · exact hidle rfl
  · exact hactive rfl

/-- A run step from its two cases, as R155 gives them. -/
theorem runStep_of_cases (hsame : l = lv → p' = p ∧ n'.toNat = min (n.toNat + 1) (2 ^ 24 - 1))
    (hturn : l ≠ lv → p' = push80 p ⟨lv, n⟩ ∧ n' = 1) : RunStep l p lv n p' n' := by
  by_cases hl : l = lv
  · obtain ⟨hp, hn⟩ := hsame hl
    exact .inl ⟨hl, hp, eq_sat24_iff.mpr hn⟩
  · exact .inr ⟨hl, hturn hl⟩

/-- A burst's end with the run step written into its cases. -/
theorem burstEnds_iff : BurstEnds l s burst ↔ ∃ p lv n, s.cap = .run p lv n ∧ ∃ n' : Reg24,
    burstLimit s.cfg l ≤ n'.toNat
      ∧ ((l = lv ∧ n'.toNat = min (n.toNat + 1) (2 ^ 24 - 1) ∧ burst = push80 p ⟨l, n'⟩)
        ∨ (l ≠ lv ∧ n' = 1 ∧ burst = push80 (push80 p ⟨lv, n⟩) ⟨l, n'⟩)) := by
  constructor
  · rintro ⟨p, lv, n, p', n', hcap, ⟨hl, rfl, hn⟩ | ⟨hl, rfl, hn⟩, hlimit, hburst⟩
    · exact ⟨p', lv, n, hcap, n', hlimit, .inl ⟨hl, eq_sat24_iff.mp hn, hburst⟩⟩
    · exact ⟨p, lv, n, hcap, n', hlimit, .inr ⟨hl, hn, hburst⟩⟩
  · rintro ⟨p, lv, n, hcap, n', hlimit, ⟨hl, hn, hburst⟩ | ⟨hl, hn, hburst⟩⟩
    · exact ⟨p, lv, n, p, n', hcap, .inl ⟨hl, rfl, eq_sat24_iff.mpr hn⟩, hlimit, hburst⟩
    · exact ⟨p, lv, n, _, n', hcap, .inr ⟨hl, rfl, hn⟩, hlimit, hburst⟩

theorem capturePhase_off (hcap : s.cap = .off) : capturePhase l s = s := by rw [capturePhase, hcap]

theorem capturePhase_wait (hcap : s.cap = .wait) :
    capturePhase l s = if l = .active then { s with cap := .run [] .active 1 } else s := by rw [capturePhase, hcap]

theorem capturePhase_run (hcap : s.cap = .run p lv n) (hstep : RunStep l p lv n p' n') :
    capturePhase l s = endOrRecord p' l n' s := by
  rw [capturePhase, hcap]
  obtain ⟨rfl, rfl, rfl⟩ | ⟨hl, rfl, rfl⟩ := hstep
  · exact if_pos rfl
  · exact if_neg hl

theorem capturePhase_records (hcap : s.cap = .run p lv n) (hstep : RunStep l p lv n p' n')
    (hlimit : n'.toNat < burstLimit s.cfg l) : capturePhase l s = { s with cap := .run p' l n' } := by
  rw [capturePhase_run hcap hstep, endOrRecord, if_neg hlimit.not_ge]

theorem capturePhase_of_burstEnds (h : BurstEnds l s burst) :
    capturePhase l s = resolve burst { s with cap := .wait } := by
  obtain ⟨p, lv, n, p', n', hcap, hstep, hlimit, rfl⟩ := h
  rw [capturePhase_run hcap hstep, endOrRecord, if_pos hlimit]

/-- Where no burst ends phase 4 writes CAP alone (R154, R155). -/
theorem capturePhase_of_no_burstEnds (h : ∀ burst, ¬ BurstEnds l s burst) :
    ∃ c, capturePhase l s = { s with cap := c } := by
  obtain ⟨-, e⟩ | ⟨-, -, e⟩ | ⟨p, lv, n, p', n', hcap, hstep, ⟨-, e⟩ | ⟨hlimit, -⟩⟩ := capturePhase_cases l s
  · exact ⟨s.cap, e⟩
  · exact ⟨_, e⟩
  · exact ⟨_, e⟩
  · exact absurd ⟨p, lv, n, p', n', hcap, hstep, hlimit, rfl⟩ (h _)

/-- Phase 4 can stop a frame being sent, and writes nothing else into TXSEQ (R131, R154 to R157). -/
theorem capturePhase_txseq_cases (l : Level) (s : State) :
    (capturePhase l s).txseq = s.txseq ∨ (capturePhase l s).txseq = s.txseq.stopSend := by
  obtain ⟨-, e⟩ | ⟨-, -, e⟩ | ⟨_, _, _, _, _, -, -, ⟨-, e⟩ | ⟨-, e⟩⟩ := capturePhase_cases l s <;> rw [e]
  · exact .inl rfl
  · exact .inl rfl
  · exact .inl rfl
  · exact resolve_txseq_cases _ { s with cap := .wait }

/-! ### The echo timer's phase -/

/-- NOW - PT modulo 2^32, in numbers (R159). -/
theorem echoExpired_iff : echoExpired s = true ↔ s.pending.valid = true
    ∧ s.cfg.echoTimeoutTicks.toNat ≤ (s.now.toNat + 2 ^ 32 - s.pending.start.toNat) % 2 ^ 32 := by
  have hsub : (s.now - s.pending.start).toNat = (s.now.toNat + 2 ^ 32 - s.pending.start.toNat) % 2 ^ 32 := by
    rw [BitVec.toNat_sub]
    congr 1
    omega
  rw [echoExpired, Bool.and_eq_true, decide_eq_true_iff, hsub]

theorem echoPhase_of_not_expired (h : echoExpired s = false) : echoPhase s = s := by
  rw [echoPhase, h]
  exact if_neg Bool.false_ne_true

theorem echoPhase_of_expired (h : echoExpired s = true) :
    echoPhase s = { emit (.collisionDetected .echoTimeout) s with
      lastKind := .unknown, pending := { s.pending with valid := false } } := by
  obtain ⟨hx, -⟩ | ⟨-, -, e⟩ := echoPhase_cases s
  · exact absurd (hx.symm.trans h) Bool.false_ne_true
  · exact e

theorem echoExpired_of_not_pending (h : s.pending.valid = false) : echoExpired s = false := by
  rw [echoExpired, h, Bool.false_and]

/-! ### Phases 1 to 5 of a tick -/

/-- Phases 1 to 3 of a tick that samples `l`: what the capture unit acts on (R150). -/
def beforeCapture (l : Level) (s : State) : State := monitorPhase l (drivePhase s)

/-- Phases 1 to 5 of a tick that samples `l`: no later phase queues an event (R150). -/
def beforeSequencer (l : Level) (s : State) : State := echoPhase (capturePhase l (beforeCapture l s))

theorem beforeStart_eq_beforeSequencer (l : Level) (s : State) :
    beforeStart l s = sequencerPhase (beforeSequencer l s) := rfl

/-- The echo timer does not fire at a tick that ends a burst: no outcome is pending any more (R159). -/
theorem beforeSequencer_of_burstEnds (h : BurstEnds l s burst) :
    beforeSequencer l s = resolve burst { beforeCapture l s with cap := .wait } := by
  rw [beforeSequencer, capturePhase_of_burstEnds (s := beforeCapture l s) h]
  exact echoPhase_of_not_expired (echoExpired_of_not_pending (resolve_pending_valid _ _))

/-- Where no burst ends the echo timer decides on the registers, NOW and PENDING the tick began with (R159). -/
theorem beforeSequencer_of_no_burstEnds (h : ∀ burst, ¬ BurstEnds l s burst) :
    ∃ c, beforeSequencer l s = echoPhase { beforeCapture l s with cap := c }
      ∧ echoExpired { beforeCapture l s with cap := c } = echoExpired s := by
  obtain ⟨c, e⟩ := capturePhase_of_no_burstEnds (s := beforeCapture l s) h
  exact ⟨c, by rw [beforeSequencer, e], rfl⟩

/-! ### What the rest of the tick keeps -/

theorem tickStep_evq (l : Level) (s : State) : (tickStep l s).evq = (beforeSequencer l s).evq := by
  rw [tickStep_eq_beforeStart, clockPhase_evq, startPhase_evq, beforeStart_eq_beforeSequencer, sequencerPhase_evq]

theorem tickStep_evqOvf (l : Level) (s : State) : (tickStep l s).evqOvf = (beforeSequencer l s).evqOvf := by
  rw [tickStep_eq_beforeStart, clockPhase_evqOvf, startPhase_evqOvf, beforeStart_eq_beforeSequencer,
    sequencerPhase_evqOvf]

/-- An outcome still pending after phase 5 keeps the next request from starting (R163). -/
theorem tickStep_pending (h : (beforeSequencer l s).pending.valid = true) :
    (tickStep l s).pending = (beforeSequencer l s).pending := by
  have hpending : (beforeStart l s).pending = (beforeSequencer l s).pending := sequencerPhase_pending _
  have hmay : mayStart (beforeStart l s) = false :=
    Bool.eq_false_iff.mpr fun hmay => by
      obtain ⟨-, -, hpv, -⟩ := (mayStart_iff _).mp hmay
      exact absurd (hpv.symm.trans (hpending ▸ h)) Bool.false_ne_true
  rw [tickStep_of_not_mayStart hmay, clockPhase_pending, hpending]

/-- Only the end of a break makes phase 6 write CAP and LAST_KIND (R161). -/
theorem sequencerPhase_of_no_break (h : ∀ r, s.txseq ≠ .brk r) :
    (sequencerPhase s).cap = s.cap ∧ (sequencerPhase s).lastKind = s.lastKind := by
  obtain ⟨-, e⟩ | ⟨_, _, _, -, ⟨-, e⟩ | ⟨-, e⟩⟩ | ⟨r, hbrk, -⟩ := sequencerPhase_cases s
  · rw [e]; exact ⟨rfl, rfl⟩
  · rw [e]; exact ⟨rfl, rfl⟩
  · rw [e]; exact ⟨rfl, rfl⟩
  · exact absurd hbrk (h r)

theorem stopSend_ne_brk {seq : TxSeq} (h : ∀ r, seq ≠ .brk r) (r : Nat) : seq.stopSend ≠ .brk r := by
  cases seq with
  | idle => exact h r
  | send => exact TxSeq.noConfusion
  | brk r' => exact h r

theorem beforeSequencer_no_break (h : ∀ r, s.txseq ≠ .brk r) (l : Level) (r : Nat) :
    (beforeSequencer l s).txseq ≠ .brk r := by
  rw [beforeSequencer, echoPhase_txseq]
  obtain e | e := capturePhase_txseq_cases l (beforeCapture l s) <;> rw [e]
  · exact h r
  · exact stopSend_ne_brk (seq := s.txseq) h r

theorem tickStep_cap_of_no_break (h : ∀ r, s.txseq ≠ .brk r) :
    (tickStep l s).cap = (capturePhase l (beforeCapture l s)).cap := by
  obtain ⟨hcap, -⟩ := sequencerPhase_of_no_break (beforeSequencer_no_break h l)
  rw [tickStep_eq_beforeStart, clockPhase_cap, startPhase_cap, beforeStart_eq_beforeSequencer, hcap, beforeSequencer,
    echoPhase_cap]

theorem tickStep_lastKind_of_no_break (h : ∀ r, s.txseq ≠ .brk r) :
    (tickStep l s).lastKind = (beforeSequencer l s).lastKind := by
  obtain ⟨-, hkind⟩ := sequencerPhase_of_no_break (beforeSequencer_no_break h l)
  rw [tickStep_eq_beforeStart, clockPhase_lastKind, startPhase_lastKind, beforeStart_eq_beforeSequencer, hkind]

/-! ### A tick that ends a burst -/

/-- The event queue a tick that ends a burst leaves is the one that resolving the burst leaves (R130, R150). -/
theorem tickStep_evq_of_burstEnds (h : BurstEnds l s burst) :
    (tickStep l s).evq = (resolve burst s).evq ∧ (tickStep l s).evqOvf = (resolve burst s).evqOvf := by
  rw [tickStep_evq, tickStep_evqOvf, beforeSequencer_of_burstEnds h]
  exact resolve_evq_congr burst rfl rfl rfl rfl

theorem tickStep_lastKind_of_burstEnds (hbreak : ∀ r, s.txseq ≠ .brk r) (h : BurstEnds l s burst) :
    (tickStep l s).lastKind = (resolve burst s).lastKind := by
  rw [tickStep_lastKind_of_no_break hbreak, beforeSequencer_of_burstEnds h]
  exact resolve_lastKind_congr burst rfl rfl rfl

theorem tickStep_cap_of_burstEnds (hbreak : ∀ r, s.txseq ≠ .brk r) (h : BurstEnds l s burst) :
    (tickStep l s).cap = .wait := by
  rw [tickStep_cap_of_no_break hbreak, capturePhase_of_burstEnds (s := beforeCapture l s) h, resolve_cap]

/-- With an outcome pending and room in EVQ, that queue has one more event, which is not the echo timer's (R159). -/
theorem resolve_evq_of_pending (burst : List CapPulse) (hpv : s.pending.valid = true)
    (hroom : s.evq.length < Config.evqDepth) :
    ∃ ev, (resolve burst s).evq = s.evq ++ [ev] ∧ ev ≠ .collisionDetected .echoTimeout := by
  obtain ⟨ev, hne, hevq⟩ := resolvePending_evq (decodeBurst s.cfg (burst.map CapPulse.pulse)) s
  exact ⟨ev, by rw [resolve_of_pending hpv, hevq, emit_evq_of_room ev hroom], hne⟩

/-! ### A tick that ends no burst -/

theorem tickStep_evq_of_timeout (h : ∀ burst, ¬ BurstEnds l s burst) (hx : echoExpired s = true) :
    (tickStep l s).evq = (emit (.collisionDetected .echoTimeout) s).evq
      ∧ (tickStep l s).evqOvf = (emit (.collisionDetected .echoTimeout) s).evqOvf := by
  obtain ⟨c, e, hsame⟩ := beforeSequencer_of_no_burstEnds h
  rw [tickStep_evq, tickStep_evqOvf, e, echoPhase_of_expired (hsame.trans hx)]
  exact emit_congr (.collisionDetected .echoTimeout) (s := s) (s' := { beforeCapture l s with cap := c }) rfl rfl

theorem tickStep_of_no_timeout (h : ∀ burst, ¬ BurstEnds l s burst) (hx : echoExpired s = false)
    (hpv : s.pending.valid = true) :
    (tickStep l s).evq = s.evq ∧ (tickStep l s).evqOvf = s.evqOvf ∧ (tickStep l s).pending = s.pending := by
  obtain ⟨c, e, hsame⟩ := beforeSequencer_of_no_burstEnds h
  have hquiet : beforeSequencer l s = { beforeCapture l s with cap := c } :=
    e.trans (echoPhase_of_not_expired (hsame.trans hx))
  have hpending : (beforeSequencer l s).pending = s.pending := by rw [hquiet]; rfl
  rw [tickStep_evq, tickStep_evqOvf, tickStep_pending (hpending ▸ hpv), hquiet]
  exact ⟨rfl, rfl, rfl⟩

end

/-! ### The statements -/

/-- Settles O43: the capture unit's phase by what CAP holds; of the rest of a tick without a break, nothing writes CAP,
and at a burst's end nothing but the resolved burst writes EVQ and LAST_KIND. -/
theorem captureByRule : Obligations.CaptureByRule := by
  unfold Obligations.CaptureByRule
  refine ⟨fun l s => ⟨capturePhase_off, capturePhase_wait, fun p lv n hcap p' n' hsame hturn => ?_⟩,
    fun l s hbreak => ⟨fun hcap => ?_, fun hcap => ?_, fun p lv n hcap p' n' hsame hturn => ?_⟩⟩
  · have hstep : RunStep l p lv n p' n' := runStep_of_cases hsame hturn
    exact ⟨fun hend => capturePhase_of_burstEnds ⟨p, lv, n, p', n', hcap, hstep, burstLimit_le_iff.mpr hend, rfl⟩,
      fun hidle hactive => capturePhase_records hcap hstep (lt_burstLimit hidle hactive)⟩
  · rw [tickStep_cap_of_no_break hbreak, capturePhase_off (s := beforeCapture l s) hcap]
    exact hcap
  · rw [tickStep_cap_of_no_break hbreak, capturePhase_wait (s := beforeCapture l s) hcap]
    split
    · rfl
    · exact hcap
  · have hstep : RunStep l p lv n p' n' := runStep_of_cases hsame hturn
    refine ⟨fun hend => ?_, fun hidle hactive => ?_⟩
    · have hburst : BurstEnds l s (push80 p' ⟨l, n'⟩) :=
        ⟨p, lv, n, p', n', hcap, hstep, burstLimit_le_iff.mpr hend, rfl⟩
      obtain ⟨hevq, hovf⟩ := tickStep_evq_of_burstEnds hburst
      exact ⟨tickStep_cap_of_burstEnds hbreak hburst, hevq, hovf, tickStep_lastKind_of_burstEnds hbreak hburst⟩
    · rw [tickStep_cap_of_no_break hbreak,
        capturePhase_records (s := beforeCapture l s) hcap hstep (lt_burstLimit hidle hactive)]

/-- Settles O44: phase 5 fires by its condition alone; over a tick, a burst's end leaves it nothing pending, and any
other tick leaves the condition as it was. -/
theorem echoTimerByRule : Obligations.EchoTimerByRule := by
  unfold Obligations.EchoTimerByRule
  refine ⟨fun s => ⟨fun hpv hx => ?_, fun h => ?_⟩, ?_⟩
  · exact ⟨_, rfl, echoPhase_of_expired (echoExpired_iff.mpr ⟨hpv, hx⟩)⟩
  · refine echoPhase_of_not_expired (Bool.eq_false_iff.mpr fun hx => ?_)
    obtain ⟨hpv, hx⟩ := echoExpired_iff.mp hx
    obtain hpv' | hlt := h
    · exact absurd (hpv'.symm.trans hpv) Bool.false_ne_true
    · omega
  intro l s hpv limit push expired burstEnds
  have hburstEnds : ∀ burst, burstEnds burst ↔ BurstEnds l s burst := fun _ => burstEnds_iff.symm
  have hexpired : echoExpired s = true ↔ expired := echoExpired_iff.trans (and_iff_right hpv)
  simp only [hburstEnds, ← hexpired]
  refine ⟨fun burst h => ?_, fun h hx => ?_, fun h hx => ?_⟩
  · obtain ⟨hevq, hovf⟩ := tickStep_evq_of_burstEnds h
    exact ⟨hevq, hovf, fun hroom => hevq ▸ resolve_evq_of_pending burst hpv hroom⟩
  · obtain ⟨hevq, hovf⟩ := tickStep_evq_of_timeout h hx
    obtain ⟨hroom, e⟩ | ⟨hfull, e⟩ := emit_cases (.collisionDetected .echoTimeout) s <;> rw [hevq, hovf, e]
    · exact ⟨fun _ => rfl, fun hfull => absurd hroom hfull.not_gt⟩
    · exact ⟨fun hroom => absurd hroom hfull.not_gt, fun _ => ⟨rfl, rfl⟩⟩
  · exact tickStep_of_no_timeout h (Bool.eq_false_iff.mpr hx) hpv

end Sys2Proof.Machine
end

section
/-! PROOFS. The sequencer and the transmit start, phase by phase (42_frame_driver.md R151, R160 to R163): what a tick
drives, how far it takes TXSEQ, and which request it starts. -/

namespace Sys2Proof.Machine

section
variable {s : State}

/-! ### Phase 1 -/

/-- The line is driven throughout a break, and at the active half-bits of a frame (R151). -/
theorem driveOut_iff : driveOut s = true ↔
    (∃ r, s.txseq = .brk r) ∨ ∃ d n k, s.txseq = .send d n k ∧ halfBitAt s.cfg d n k = some .active := by
  unfold driveOut
  cases s.txseq with
  | idle => simp
  | send d n k => simp
  | brk r => simp

/-- No phase after the first writes drv_active (R150, R151). -/
@[simp] theorem tickStep_drvActive (l : Level) (s : State) : (tickStep l s).drvActive = driveOut s := by
  simp [tickStep]

/-! ### Phase 6 by what TXSEQ holds -/

theorem sequencerPhase_of_idle (h : s.txseq = .idle) : sequencerPhase s = s := by rw [sequencerPhase, h]

/-- The tick that drives the last of the (2N + 4) x TE_TICKS ticks of a frame ends it (R160). -/
theorem sequencerPhase_of_send_last {d : Reg24} {n : FrameLen} {k : Nat} (h : s.txseq = .send d n k)
    (hk : k + 1 = (2 * n.bits + 4) * s.cfg.teTicks.toNat) : sequencerPhase s = { s with txseq := .idle } := by
  rw [sequencerPhase, h]
  exact if_pos hk

theorem sequencerPhase_of_send {d : Reg24} {n : FrameLen} {k : Nat} (h : s.txseq = .send d n k)
    (hk : k + 1 ≠ (2 * n.bits + 4) * s.cfg.teTicks.toNat) :
    sequencerPhase s = { s with txseq := .send d n (k + 1) } := by
  rw [sequencerPhase, h]
  exact if_neg hk

/-- The last tick of a break arms the capture unit again and forgets the kind (R161). -/
theorem sequencerPhase_of_brk_last (h : s.txseq = .brk 1) :
    sequencerPhase s = { s with txseq := .idle, cap := .wait, lastKind := .unknown } := by
  rw [sequencerPhase, h]
  exact if_pos rfl

theorem sequencerPhase_of_brk {r : Nat} (h : s.txseq = .brk r) (hr : r ≠ 1) :
    sequencerPhase s = { s with txseq := .brk (r - 1) } := by
  rw [sequencerPhase, h]
  exact if_neg hr

/-! ### Phase 7 -/

theorem startPhase_of_mayStart {r : TxReq} {rest : List TxReq} (hq : s.txq = r :: rest) (hmay : mayStart s = true) :
    startPhase s = startRequest r rest s := by
  rw [startPhase, hq]
  exact if_pos hmay

theorem startPhase_of_no_request (hq : s.txq = []) : startPhase s = s := by rw [startPhase, hq]

end

/-! ### The statements -/

/-- Settles O41: phase 1 alone writes drv_active, and `driveOut_iff` says what it writes. -/
theorem driveByRule : Obligations.DriveByRule := by
  unfold Obligations.DriveByRule
  intro l s
  rw [tickStep_drvActive]
  exact driveOut_iff

/-- Settles O45: phase 6 by what TXSEQ holds. -/
theorem sequencerByRule : Obligations.SequencerByRule := by
  unfold Obligations.SequencerByRule
  exact fun s => ⟨fun d n k h => ⟨sequencerPhase_of_send_last h, sequencerPhase_of_send h⟩,
    sequencerPhase_of_brk_last, fun r h => sequencerPhase_of_brk h (by omega), sequencerPhase_of_idle⟩

/-- Settles O46: phase 7 starts the oldest request exactly under R163's conditions, which `mayStart_iff` lists. -/
theorem txStartByRule : Obligations.TxStartByRule := by
  unfold Obligations.TxStartByRule
  intro s
  simp only [← gapTicks_eq]
  refine ⟨fun r rest hq hen hseq hpv hcap hline hgap => ?_, fun hlacking => ?_⟩
  · exact startPhase_of_mayStart hq ((mayStart_iff s).mpr ⟨hen, hseq, hpv, hcap, hline, hgap⟩)
  · obtain ⟨-, e⟩ | ⟨r, rest, hq, hmay, -⟩ := startPhase_cases s
    · exact e
    · obtain ⟨hen, hseq, hpv, hcap, hline, hgap⟩ := (mayStart_iff s).mp hmay
      have hshort : s.idleCnt.toNat < gapTicks s.cfg s.lastKind := by
        simpa [hq, hen, hseq, hpv, hcap, hline] using hlacking
      exact absurd hgap hshort.not_ge

end Sys2Proof.Machine
end

section
/-! PROOFS. What every tick step does, enabled or not: it moves the line monitor and the clock (42_frame_driver.md R153,
R164), emits one event at most (R165, R166), and is part of a machine that never stops (R150, R190, R230). -/

namespace Sys2Proof.Machine

/-! ### The line monitor, the clock, and what no phase writes -/

@[simp] theorem tickStep_line (l : Level) (s : State) : (tickStep l s).line = l := by simp [tickStep]

@[simp] theorem tickStep_lastEdge (l : Level) (s : State) :
    (tickStep l s).lastEdge = if l = s.line then s.lastEdge else s.now := by
  rw [tickStep_eq_beforeStart, clockPhase_lastEdge, startPhase_lastEdge, beforeStart, sequencerPhase_lastEdge,
    echoPhase_lastEdge, capturePhase_lastEdge]
  exact monitorPhase_lastEdge l (drivePhase s)

@[simp] theorem tickStep_idleCnt (l : Level) (s : State) : (tickStep l s).idleCnt = nextIdleCnt l s.idleCnt := by
  simp [tickStep]

@[simp] theorem tickStep_now (l : Level) (s : State) : (tickStep l s).now = s.now + 1 := by simp [tickStep]

@[simp] theorem tickStep_cfg (l : Level) (s : State) : (tickStep l s).cfg = s.cfg := by simp [tickStep]

@[simp] theorem tickStep_rspStatus (l : Level) (s : State) : (tickStep l s).rspStatus = s.rspStatus := by
  simp [tickStep]

@[simp] theorem tickStep_rspData (l : Level) (s : State) : (tickStep l s).rspData = s.rspData := by simp [tickStep]

/-! ### Runs of ticks -/

@[simp] theorem runLevels_nil (s : State) : runLevels [] s = s := rfl

@[simp] theorem runLevels_cons (l : Level) (sense : List Level) (s : State) :
    runLevels (l :: sense) s = runLevels sense (tickStep l s) := rfl

theorem runLevels_concat (sense : List Level) (l : Level) (s : State) :
    runLevels (sense ++ [l]) s = tickStep l (runLevels sense s) := List.foldl_concat ..

/-- IDLE_CNT goes on counting idle ticks from where it stands, up to its saturation (R35, R153). -/
theorem runLevels_idle_idleCnt (k : Nat) (s : State) :
    (runLevels (List.replicate k .idle) s).idleCnt.toNat = min (s.idleCnt.toNat + k) (2 ^ 24 - 1) := by
  induction k with
  | zero =>
    have hmax := s.idleCnt.isLt
    rw [List.replicate_zero, runLevels_nil]
    omega
  | succ k ih =>
    rw [runLevels_replicate_succ, tickStep_idleCnt, nextIdleCnt_toNat]
    simp only [ih]
    omega

/-- NOW counts tick steps (R32, R164). -/
theorem runLevels_now (sense : List Level) (s : State) :
    (runLevels sense s).now = s.now + BitVec.ofNat 32 sense.length := by
  induction sense generalizing s with
  | nil => exact (BitVec.add_zero s.now).symm
  | cons l sense ih =>
    rw [runLevels_cons, ih, tickStep_now, List.length_cons, now_add_succ, add_right_comm]

/-- Settles O42: phases 3 and 8 write the line monitor and NOW, and the counts over a run follow by induction on it. -/
theorem monitorAndClockByRule : Obligations.MonitorAndClockByRule := by
  unfold Obligations.MonitorAndClockByRule
  refine ⟨fun l s => ⟨tickStep_line l s, ?_, ?_, ?_, tickStep_cfg l s, tickStep_rspStatus l s, tickStep_rspData l s⟩,
    fun k s => ?_, fun sense s => ?_⟩
  · rw [tickStep_lastEdge, ite_not]
  · rintro rfl
    exact tickStep_idleCnt .active s
  · rintro rfl
    rw [tickStep_idleCnt, nextIdleCnt_toNat]
  · rw [runLevels_cons, runLevels_idle_idleCnt, tickStep_idleCnt, nextIdleCnt_toNat, Nat.zero_add]
  · rw [runLevels_now, BitVec.toNat_add, BitVec.toNat_ofNat, Nat.add_mod_mod]

/-! ### One event at most -/

/-- From `s` to `t` the event queue is kept, or takes one `emit` (R165). -/
def EmitsAtMostOne (s t : State) : Prop :=
  (t.evq = s.evq ∧ t.evqOvf = s.evqOvf) ∨ ∃ ev, t.evq = (emit ev s).evq ∧ t.evqOvf = (emit ev s).evqOvf

/-- The two outcomes of an `emit` written out (R165). -/
theorem EmitsAtMostOne.cases {s t : State} (h : EmitsAtMostOne s t) :
    (t.evq = s.evq ∧ t.evqOvf = s.evqOvf)
    ∨ (s.evq.length < Config.evqDepth ∧ t.evqOvf = s.evqOvf ∧ ∃ ev, t.evq = s.evq ++ [ev])
    ∨ (Config.evqDepth ≤ s.evq.length ∧ t.evqOvf = true ∧ t.evq = s.evq) := by
  obtain hkept | ⟨ev, hevq, hovf⟩ := h
  · exact .inl hkept
  · obtain ⟨hroom, e⟩ | ⟨hfull, e⟩ := emit_cases ev s <;> rw [e] at hevq hovf
    · exact .inr (.inl ⟨hroom, hovf, ev, hevq⟩)
    · exact .inr (.inr ⟨hfull, hovf, hevq⟩)

theorem resolve_emitsAtMostOne (burst : List CapPulse) (s : State) : EmitsAtMostOne s (resolve burst s) := by
  unfold resolve
  cases hpv : s.pending.valid
  · obtain e | ⟨ev, _, -, e⟩ :=
      resolveResult_nothing_pending (decodeBurst s.cfg (burst.map CapPulse.pulse)) s hpv <;> rw [e]
    · exact .inl ⟨rfl, rfl⟩
    · exact .inr ⟨ev, rfl, rfl⟩
  · obtain ⟨ev, _, _, -, -, e⟩ := resolveResult_pending (decodeBurst s.cfg (burst.map CapPulse.pulse)) s hpv
    rw [e]
    exact .inr ⟨ev, rfl, rfl⟩

/-- A tick that ends no burst and at which the echo timer does not run out queues nothing (R150). -/
theorem tickStep_evq_of_no_event {l : Level} {s : State} (h : ∀ burst, ¬ BurstEnds l s burst)
    (hx : echoExpired s = false) : (tickStep l s).evq = s.evq ∧ (tickStep l s).evqOvf = s.evqOvf := by
  obtain ⟨c, e, hsame⟩ := beforeSequencer_of_no_burstEnds h
  rw [tickStep_evq, tickStep_evqOvf, e, echoPhase_of_not_expired (hsame.trans hx)]
  exact ⟨rfl, rfl⟩

/-- A tick's one event is that of the burst it ends; the echo timer's comes only where no burst ends (R159, R166). -/
theorem tickStep_emitsAtMostOne (l : Level) (s : State) : EmitsAtMostOne s (tickStep l s) := by
  by_cases hburst : ∃ burst, BurstEnds l s burst
  · obtain ⟨burst, hburst⟩ := hburst
    obtain ⟨hevq, hovf⟩ := tickStep_evq_of_burstEnds hburst
    unfold EmitsAtMostOne
    rw [hevq, hovf]
    exact resolve_emitsAtMostOne burst s
  · have hnone : ∀ burst, ¬ BurstEnds l s burst := not_exists.mp hburst
    cases hx : echoExpired s
    · exact .inl (tickStep_evq_of_no_event hnone hx)
    · exact .inr ⟨_, tickStep_evq_of_timeout hnone hx⟩

/-- Settles O48: `emit` by the room in EVQ, and the at most one `emit` of a tick. -/
theorem oneEventPerTick : Obligations.OneEventPerTick := by
  unfold Obligations.OneEventPerTick
  exact ⟨fun ev s => ⟨fun hroom => if_pos hroom, fun hfull => if_neg hfull.not_gt⟩,
    fun l s => (tickStep_emitsAtMostOne l s).cases⟩

/-! ### Every step completes -/

theorem exec_completes (i : Instr) (s : State) : ∃ t, exec i s = .next t := by
  cases i with
  | cfgw idx v =>
    simp only [exec, execCfgw]
    split
    · exact ⟨_, rfl⟩
    · exact ⟨_, rfl⟩
  | cfgr idx =>
    simp only [exec, execCfgr]
    split
    · exact ⟨_, rfl⟩
    · exact ⟨_, rfl⟩
  | _ => exact ⟨_, rfl⟩

theorem commandStep_completes (w : Word) (s : State) : ∃ t, commandStep w s = .next t := by
  cases h : decode w with
  | none => exact ⟨_, by rw [commandStep, h]⟩
  | some i =>
    rw [commandStep, h]
    exact exec_completes i s

/-- Settles O8: a command step completes whether or not its word decodes, and a tick and a reset always do. -/
theorem everyStepCompletes : Obligations.EveryStepCompletes := by
  unfold Obligations.EveryStepCompletes
  intro s
  unfold step
  cases nextInput s with
  | command w => exact commandStep_completes w (takeInput s)
  | tick ext => exact ⟨_, rfl⟩
  | tickSense pin => exact ⟨_, rfl⟩
  | resetTick offered => exact ⟨_, rfl⟩

end Sys2Proof.Machine
end

section
/-! PROOFS. Ticks with the capture unit off and no outcome pending: those of a disabled block (42_frame_driver.md R150,
R208, R241) and those of a break (R161, R196). -/

namespace Sys2Proof.Machine

section
variable {s : State} {r : Nat}

/-- With the capture unit off and nothing pending, phases 4 and 5 do nothing, whatever is sensed (R154, R159). -/
theorem beforeSequencer_of_off (l : Level) (hcap : s.cap = .off) (hpv : s.pending.valid = false) :
    beforeSequencer l s = beforeCapture l s := by
  rw [beforeSequencer, capturePhase_off (s := beforeCapture l s) hcap]
  exact echoPhase_of_not_expired (echoExpired_of_not_pending hpv)

theorem beforeStart_of_off (l : Level) (hcap : s.cap = .off) (hpv : s.pending.valid = false) :
    beforeStart l s = sequencerPhase (beforeCapture l s) := by
  rw [beforeStart_eq_beforeSequencer, beforeSequencer_of_off l hcap hpv]

/-! ### A disabled block -/

/-- Where nothing is driven, captured, pending or queued, only phases 1, 3 and 8 of a tick do anything (R150, R208). -/
theorem tickStep_of_quiet (l : Level) (hseq : s.txseq = .idle) (hcap : s.cap = .off)
    (hpv : s.pending.valid = false) (hq : s.txq = []) : tickStep l s = clockPhase (beforeCapture l s) := by
  have hstart : beforeStart l s = beforeCapture l s :=
    (beforeStart_of_off l hcap hpv).trans (sequencerPhase_of_idle hseq)
  rw [tickStep_eq_beforeStart, hstart, startPhase_of_no_request (s := beforeCapture l s) hq]

/-! ### A break -/

/-- A break with `r` ticks still to drive: nothing is captured or pending meanwhile (R161, R196). -/
structure InBreak (r : Nat) (s : State) : Prop where
  txseq : s.txseq = .brk r
  cap : s.cap = .off
  pending : s.pending.valid = false

/-- A tick of a break drives the line and reports nothing. -/
theorem InBreak.tickStep_drives (h : InBreak r s) (l : Level) : (tickStep l s).drvActive = true
    ∧ (tickStep l s).evq = s.evq ∧ (tickStep l s).evqOvf = s.evqOvf := by
  rw [tickStep_drvActive, tickStep_evq, tickStep_evqOvf, beforeSequencer_of_off l h.cap h.pending]
  exact ⟨driveOut_iff.mpr (.inl ⟨r, h.txseq⟩), rfl, rfl⟩

/-- Before its last tick a break goes on, with one tick less to drive; no request starts meanwhile (R161, R163). -/
theorem InBreak.tickStep_next (h : InBreak r s) (hr : r ≠ 1) (l : Level) : InBreak (r - 1) (tickStep l s) := by
  have hseq : beforeStart l s = { beforeCapture l s with txseq := .brk (r - 1) } :=
    (beforeStart_of_off l h.cap h.pending).trans (sequencerPhase_of_brk h.txseq hr)
  have hmay : mayStart (beforeStart l s) = false := by simp [mayStart, hseq]
  rw [tickStep_of_not_mayStart hmay, hseq]
  exact ⟨rfl, h.cap, h.pending⟩

/-- The last tick of a break arms the capture unit, also where it starts a request (R161, R163). -/
theorem InBreak.tickStep_last (h : InBreak 1 s) (l : Level) : (tickStep l s).breakActive = false
    ∧ (tickStep l s).cap = .wait ∧ (tickStep l s).lastKind = .unknown := by
  have hseq : beforeStart l s = { beforeCapture l s with txseq := .idle, cap := .wait, lastKind := .unknown } :=
    (beforeStart_of_off l h.cap h.pending).trans (sequencerPhase_of_brk_last h.txseq)
  obtain e | ⟨_, _, -, -, e⟩ := tickStep_start_cases l s <;> rw [e, hseq] <;> exact ⟨rfl, rfl, rfl⟩

/-- Short of its last tick a break goes on, whatever is sensed, and reports nothing. -/
theorem InBreak.runLevels_short (h : InBreak r s) {sense : List Level} (hlt : sense.length < r) :
    InBreak (r - sense.length) (runLevels sense s)
      ∧ (runLevels sense s).evq = s.evq ∧ (runLevels sense s).evqOvf = s.evqOvf := by
  induction sense generalizing s r with
  | nil => exact ⟨h, rfl, rfl⟩
  | cons l sense ih =>
    rw [List.length_cons] at hlt ⊢
    obtain ⟨-, hevq, hovf⟩ := h.tickStep_drives l
    obtain ⟨hbreak, hevq', hovf'⟩ := ih (h.tickStep_next (by omega) l) (by omega)
    rw [Nat.sub_right_comm] at hbreak
    exact ⟨hbreak, hevq'.trans hevq, hovf'.trans hovf⟩

end

/-! ### The statements -/

/-- Settles O52: of a disabled block's tick only the line monitor and the clock are left. -/
theorem disabledBlockIsQuiet : Obligations.DisabledBlockIsQuiet := by
  unfold Obligations.DisabledBlockIsQuiet
  intro l s hquiet hen
  obtain ⟨hseq, hcap, hpv, hq⟩ := hquiet hen
  have hdrive : driveOut s = false := by rw [driveOut, hseq]
  refine ⟨(tickStep_drvActive l s).trans hdrive, ?_⟩
  rw [tickStep_of_quiet l hseq hcap hpv hq, beforeCapture, drivePhase, hdrive]
  rfl

/-- Settles O54: all ticks but the last leave the break going on, so the last one is a tick of a break too, and ends it
when it is the R-th. -/
theorem breakDrivesExactly : Obligations.BreakDrivesExactly := by
  unfold Obligations.BreakDrivesExactly
  intro r s sense hseq hcap hpv hne hle
  obtain rfl | ⟨init, l, rfl⟩ := sense.eq_nil_or_concat'
  · exact absurd rfl hne
  rw [List.length_append, List.length_singleton] at hle ⊢
  obtain ⟨hbreak, hevq, hovf⟩ := InBreak.runLevels_short ⟨hseq, hcap, hpv⟩ (sense := init) (by omega)
  obtain ⟨hdrive, hevq', hovf'⟩ := hbreak.tickStep_drives l
  rw [runLevels_concat]
  refine ⟨hdrive, hevq'.trans hevq, hovf'.trans hovf, fun hlt => ?_, fun heq => ?_⟩
  · have hnext := hbreak.tickStep_next (by omega) l
    rw [Nat.sub_sub] at hnext
    exact ⟨hnext.txseq, hnext.cap⟩
  · rw [← heq, Nat.add_sub_cancel_left] at hbreak
    exact hbreak.tickStep_last l

end Sys2Proof.Machine
end

section
/-! PROOFS. The command words under the masks of their rules (43_host_commands.md R200, R202 to R205): which words a
command with operands has, and which words of its OPC are ILLEGAL. -/

namespace Sys2Proof

/-! ### Fields under a mask -/

/-- Two words put together from fields of the same widths are equal field by field. -/
theorem append_eq_append_iff {m n : Nat} {a b : BitVec m} {c d : BitVec n} : a ++ c = b ++ d ↔ a = b ∧ c = d := by
  constructor
  · intro h
    have hhigh := congrArg (BitVec.extractLsb' n m) h
    have hlow := congrArg (BitVec.extractLsb' 0 n) h
    simp only [BitVec.extractLsb'_append_eq_left, BitVec.extractLsb'_append_eq_right] at hhigh hlow
    exact ⟨hhigh, hlow⟩
  · rintro ⟨rfl, rfl⟩
    rfl

section
variable (w : Word)

/-- The mask of CFGW keeps OPC (R200). -/
theorem and_opcMask : w &&& 0xF0000000#32 = opcField w ++ 0#28 := by
  have hmask : 0xF0000000#32 = BitVec.allOnes 4 ++ 0#28 := rfl
  conv_lhs => rw [← opcField_append_restField w]
  rw [hmask, BitVec.and_append, BitVec.and_allOnes, BitVec.and_zero]

/-- The mask of CFGR keeps OPC and DATA (R202). -/
theorem and_opcDataMask : w &&& 0xF0FFFFFF#32 = opcField w ++ (0#4 ++ dataField w) := by
  have hmask : 0xF0FFFFFF#32 = BitVec.allOnes 4 ++ (0#4 ++ BitVec.allOnes 24) := rfl
  conv_lhs => rw [word_eq_fields w]
  rw [hmask, BitVec.and_append, BitVec.and_append, BitVec.and_allOnes, BitVec.and_allOnes, BitVec.and_zero]

/-- The mask of CLRF keeps every bit but bit 0 (R203). -/
theorem and_upperMask : w &&& 0xFFFFFFFE#32 = opcField w ++ (upperRestField w ++ 0#1) := by
  have hmask : 0xFFFFFFFE#32 = BitVec.allOnes 4 ++ (BitVec.allOnes 27 ++ 0#1) := rfl
  conv_lhs => rw [← opcField_append_restField w, ← upperRestField_append_bit0Field w]
  rw [hmask, BitVec.and_append, BitVec.and_append, BitVec.and_allOnes, BitVec.and_allOnes, BitVec.and_zero]

end

/-! ### The words of the commands with operands -/

section
variable {w : Word}

/-- The words of CFGW (R200). -/
theorem decode_eq_cfgw_iff {idx : BitVec 4} {v : Reg24} : decode w = some (.cfgw idx v) ↔
    w &&& 0xF0000000#32 = 0x60000000#32 ∧ idx = idxField w ∧ v = dataField w ∧ idx.toNat ≤ 8 := by
  have hpattern : 0x60000000#32 = 0x6#4 ++ 0#28 := rfl
  have hword : encode (.cfgw idx v) = w ↔ 0x6#4 = opcField w ∧ idx = idxField w ∧ v = dataField w := by
    conv_lhs => rw [word_eq_fields w, encode, append_eq_append_iff, append_eq_append_iff]
  rw [decode_eq_some_iff, hword, and_opcMask, hpattern, append_eq_append_iff]
  simp only [Instr.wellFormed, idxExists, decide_eq_true_eq]
  tauto

/-- The words of CFGR (R202). -/
theorem decode_eq_cfgr_iff {idx : BitVec 4} : decode w = some (.cfgr idx) ↔
    w &&& 0xF0FFFFFF#32 = 0x70000000#32 ∧ idx = idxField w ∧ idx.toNat ≤ 8 := by
  have hpattern : 0x70000000#32 = 0x7#4 ++ (0#4 ++ 0#24) := rfl
  have hword : encode (.cfgr idx) = w ↔ 0x7#4 = opcField w ∧ idx = idxField w ∧ 0#24 = dataField w := by
    conv_lhs => rw [word_eq_fields w, encode, append_eq_append_iff, append_eq_append_iff]
  rw [decode_eq_some_iff, hword, and_opcDataMask, hpattern, append_eq_append_iff, append_eq_append_iff]
  simp only [Instr.wellFormed, idxExists, decide_eq_true_eq]
  tauto

/-- The words of CLRF (R203). -/
theorem decode_eq_clrf_iff {m : Bool} : decode w = some (.clrf m) ↔
    w &&& 0xFFFFFFFE#32 = 0x80000000#32 ∧ m = bit0Field w := by
  have hpattern : 0x80000000#32 = 0x8#4 ++ (0#27 ++ 0#1) := rfl
  have hword : encode (.clrf m) = w ↔ 0x8#4 = opcField w ∧ 0#27 = upperRestField w ∧ m = bit0Field w := by
    conv_lhs => rw [← opcField_append_restField w, ← upperRestField_append_bit0Field w, encode]
    rw [append_eq_append_iff, append_eq_append_iff, BitVec.ofBool_eq_iff_eq]
  rw [decode_eq_some_iff, hword, and_upperMask, hpattern, append_eq_append_iff, append_eq_append_iff]
  simp only [Instr.wellFormed]
  tauto

/-- A well-formed command has one word, the one `encode` writes (R76). -/
theorem decode_eq_iff_eq_encode {i : Instr} (hi : i.wellFormed = true) : decode w = some i ↔ w = encode i := by
  rw [decode_eq_some_iff]
  exact ⟨fun ⟨_, e⟩ => e.symm, fun e => ⟨hi, e.symm⟩⟩

/-! ### ILLEGAL words by OPC -/

theorem decode_eq_none_of_cfgw (hopc : opcField w = 0x6#4) (hidx : 9 ≤ (idxField w).toNat) : decode w = none := by
  rw [decode_of_opc_cfgw hopc]
  exact decodeCfgw_eq_none_iff.2 hidx

theorem decode_eq_none_of_cfgr (hopc : opcField w = 0x7#4) (h : 9 ≤ (idxField w).toNat ∨ dataField w ≠ 0#24) :
    decode w = none := by
  rw [decode_of_opc_cfgr hopc]
  exact decodeCfgr_eq_none_iff.2 h

theorem decode_eq_none_of_clrf (hopc : opcField w = 0x8#4) (h : upperRestField w ≠ 0#27) : decode w = none := by
  rw [decode_of_opc_clrf hopc]
  exact decodeClrf_eq_none_iff.2 h

theorem decode_eq_none_of_rd (hopc : opcField w = 0x9#4) (h : upperRestField w ≠ 0#27) : decode w = none := by
  rw [decode_of_opc_rd hopc]
  exact decodeRd_eq_none_iff.2 h

end

end Sys2Proof
end

section
/-! PROOFS. The configuration registers by their index (10_state.md R22, 43_host_commands.md R200, R209), and what a
write of CTRL does (R201, R206 to R208). -/

namespace Sys2Proof.Machine

/-! ### Registers by index -/

/-- The index of a register in the register file (R22). -/
def regIndex : CfgReg → Nat
  | .teTicks => 0
  | .tolPct => 1
  | .longIdleTicks => 2
  | .busFailTicks => 3
  | .gapFwdTicks => 4
  | .gapBwdTicks => 5
  | .echoTimeoutTicks => 6
  | .breakTicks => 7
  | .ctrl => 8

/-- Every index up to 8 selects the register that has it (R22). -/
theorem exists_ofIdx {idx : BitVec 4} (h : idx.toNat ≤ 8) :
    ∃ r, CfgReg.ofIdx idx = some r ∧ regIndex r = idx.toNat := by
  have hsome : ∀ idx : BitVec 4, idx.toNat ≤ 8 → (CfgReg.ofIdx idx).map regIndex = some idx.toNat := by decide
  simpa using hsome idx h

/-- An index of 9 to 15 selects no register (R209). -/
theorem ofIdx_eq_none {idx : BitVec 4} (h : 9 ≤ idx.toNat) : CfgReg.ofIdx idx = none := by
  revert idx
  decide

theorem toList_getElem?_regIndex (c : CfgFile) (r : CfgReg) : c.toList[regIndex r]? = some (c.read r) := by
  cases r <;> rfl

theorem toList_write (c : CfgFile) (r : CfgReg) (v : Reg24) : (c.write r v).toList = c.toList.set (regIndex r) v := by
  cases r <;> rfl

theorem ne_ctrl_of_regIndex_le {r : CfgReg} (h : regIndex r ≤ 7) : r ≠ .ctrl := by
  rintro rfl
  exact absurd h (by decide)

/-- TOL_PCT takes the values up to 33, and every other timing register takes every value but 0 (R22, R200). -/
theorem timingValueLegal_iff {r : CfgReg} (hr : r ≠ .ctrl) (v : Reg24) : timingValueLegal r v = true ↔
    (regIndex r = 1 → v.toNat ≤ 33) ∧ (regIndex r ≠ 1 → v ≠ 0#24) := by
  cases r with
  | ctrl => exact absurd rfl hr
  | _ => simp [timingValueLegal, regIndex]

/-! ### CFGW and CFGR -/

section
variable {s : State} {idx : BitVec 4} {r : CfgReg}

theorem exec_cfgw_of_ofIdx (h : CfgReg.ofIdx idx = some r) (v : Reg24) :
    exec (.cfgw idx v) s = .next (writeRegister r v s) := by
  rw [exec, execCfgw, h]

theorem exec_cfgr_of_ofIdx (h : CfgReg.ofIdx idx = some r) :
    exec (.cfgr idx) s = .next (respond .ok ((s.cfg.read r).zeroExtend 32) s) := by
  rw [exec, execCfgr, h]

theorem exec_cfgw_of_no_register (h : 9 ≤ idx.toNat) (v : Reg24) :
    exec (.cfgw idx v) s = .next (raise .illegal s) := by
  rw [exec, execCfgw, ofIdx_eq_none h]

theorem exec_cfgr_of_no_register (h : 9 ≤ idx.toNat) : exec (.cfgr idx) s = .next (raise .illegal s) := by
  rw [exec, execCfgr, ofIdx_eq_none h]

theorem exec_cfgw_ctrl (v : Reg24) : exec (.cfgw 8 v) s = .next (writeCtrl v s) := rfl

/-- CFGW of an index up to 7 is a write of the timing register that has the index (R200). -/
theorem exec_cfgw_timing (h : idx.toNat ≤ 7) (v : Reg24) :
    ∃ r, r ≠ .ctrl ∧ regIndex r = idx.toNat ∧ exec (.cfgw idx v) s = .next (writeTiming r v s) := by
  obtain ⟨r, hr, hidx⟩ := exists_ofIdx (h.trans (by decide))
  have hne : r ≠ .ctrl := ne_ctrl_of_regIndex_le (hidx.trans_le h)
  exact ⟨r, hne, hidx, by rw [exec_cfgw_of_ofIdx hr, writeRegister_eq, if_neg hne]⟩

end

/-- CTRL read as a word has no bit above 1 when its reserved bits are 0 (R30, R202). -/
theorem zeroExtend_ctrl_reserved {v : Reg24} (h : ctrlReserved v = 0#22) :
    (v.zeroExtend 32).extractLsb' 2 30 = 0#30 := by
  have hword : (v.zeroExtend 32).extractLsb' 2 30 = (ctrlReserved v).setWidth 30 := by
    rw [BitVec.zeroExtend, BitVec.extractLsb'_setWidth_of_le (by decide)]
    ext i hi
    have hwidth (hbit : v.getLsbD (2 + i) = true) : i < 22 := by
      have hlt := BitVec.lt_of_getLsbD hbit
      omega
    simpa using hwidth
  rw [hword, h]
  rfl

/-! ### A write of CTRL -/

section
variable {s : State} {v : Reg24}

/-- The refusals of a CTRL write (R201, R206). -/
theorem writeCtrl_of_refused
    (h : ctrlReserved v ≠ 0#22 ∨ (s.en = false ∧ v.getLsbD 0 = true ∧ jointOk s.cfg = false)) :
    writeCtrl v s = raise .badArg s := by
  unfold writeCtrl
  by_cases hv : ctrlReserved v ≠ 0#22
  · rw [if_pos hv]
  · rw [if_neg hv, if_pos (h.resolve_left hv)]

/-- A CTRL write that is not refused sets the register and acts on the change of EN alone (R201). -/
theorem writeCtrl_of_accepted (hv : ctrlReserved v = 0#22)
    (hjoint : s.en = false → v.getLsbD 0 = true → jointOk s.cfg = true) :
    writeCtrl v s =
      respond .ok 0 (enChange s.en (v.getLsbD 0) { s with cfg := { s.cfg with ctrl := v } }) := by
  have hno : ¬(s.en = false ∧ v.getLsbD 0 = true ∧ jointOk s.cfg = false) := by
    rintro ⟨hen, hbit, hbroken⟩
    exact absurd ((hjoint hen hbit).symm.trans hbroken) (by decide)
  rw [writeCtrl, if_neg (not_not.2 hv), if_neg hno]
  rfl

theorem enChange_self (b : Bool) (s : State) : enChange b b s = s := by
  cases b <;> rfl

end

end Sys2Proof.Machine
end

section
/-! PROOFS. The statements about the commands, one by one (43_host_commands.md R190 to R209), and the invariant at reset
(70_reset_and_hazards.md R261). -/

namespace Sys2Proof.Machine

/-! ### The command step -/

/-- Settles O6: the step takes the word and runs the command it decodes to. -/
theorem stepRunsDecodedCommand : Obligations.StepRunsDecodedCommand := by
  unfold Obligations.StepRunsDecodedCommand
  intro s w rest i hin hdec
  rw [step_of_inputs hin, runInput, commandStep, hdec]

/-! ### Commands without operands -/

/-- Settles O10: NOP is the plain command of OPC 0, and only responds. -/
theorem nopByRule : Obligations.NopByRule := by
  unfold Obligations.NopByRule
  have hplain : (0x0#4, Instr.nop) ∈ plainCommands := by decide
  exact ⟨fun _ => decode_eq_plain_iff hplain, fun _ => decode_eq_none_of_plain hplain, fun _ => rfl⟩

/-- Settles O12: the three outcomes of BREAK exclude each other. -/
theorem breakByRule : Obligations.BreakByRule := by
  unfold Obligations.BreakByRule
  intro s
  have hexec : exec .brk s = .next (breakCommand s) := rfl
  rw [hexec]
  obtain ⟨hen, e⟩ | ⟨hen, hbusy, e⟩ | ⟨hen, hseq, hpv, e⟩ := breakCommand_cases s <;> rw [e]
  · exact ⟨fun _ => rfl, by simp [hen], by simp [hen]⟩
  · exact ⟨by simp [hen], fun _ _ => rfl, fun _ hseq hpv => absurd hbusy (by simp [hseq, hpv])⟩
  · exact ⟨by simp [hen], by simp [hseq, hpv], fun _ _ _ => rfl⟩

/-- TYPE of an event word (R78). -/
theorem packEvent_type (type : BitVec 3) (info : BitVec 5) (data : Reg24) :
    (packEvent type info data).extractLsb' 29 3 = type :=
  BitVec.extractLsb'_append_eq_left

/-- No event a queue can hold has TYPE 0, EMPTY (R79, R197). -/
theorem eventWord_type_ne_zero (ev : Event) : (eventWord ev).extractLsb' 29 3 ≠ 0#3 := by
  cases ev <;> simp only [eventWord, packEvent_type] <;> decide

theorem exec_evpop_of_nil {s : State} (h : s.evq = []) : exec .evpop s = .next (respond .ok 0 s) := by
  rw [exec, execEvpop, popEvent, h]

theorem exec_evpop_of_cons {s : State} {ev : Event} {rest : List Event} (h : s.evq = ev :: rest) :
    exec .evpop s = .next (respond .ok (eventWord ev) { s with evq := rest }) := by
  rw [exec, execEvpop, popEvent, h]

/-- Settles O13: EVPOP by what EVQ holds. -/
theorem evpopByRule : Obligations.EvpopByRule := by
  unfold Obligations.EvpopByRule
  have hplain : (0x3#4, Instr.evpop) ∈ plainCommands := by decide
  exact ⟨fun _ => decode_eq_plain_iff hplain, fun _ => decode_eq_none_of_plain hplain, fun _ => exec_evpop_of_nil,
    fun _ _ _ => exec_evpop_of_cons, eventWord_type_ne_zero⟩

/-- Settles O14: EVFLUSH is the plain command of OPC 4, and empties EVQ alone. -/
theorem evflushByRule : Obligations.EvflushByRule := by
  unfold Obligations.EvflushByRule
  have hplain : (0x4#4, Instr.evflush) ∈ plainCommands := by decide
  exact ⟨fun _ => decode_eq_plain_iff hplain, fun _ => decode_eq_none_of_plain hplain, fun _ => rfl⟩

/-- Settles O23: SEL is the one bit below OPC that RDNOW and RDEDGE have, and both only respond. -/
theorem timestampReadsByRule : Obligations.TimestampReadsByRule := by
  unfold Obligations.TimestampReadsByRule
  exact ⟨fun _ => decode_eq_iff_eq_encode (i := .rdnow) rfl, fun _ => decode_eq_iff_eq_encode (i := .rdedge) rfl,
    fun _ => decode_eq_none_of_rd, fun _ => rfl, fun _ => rfl⟩

/-- Settles O22: CLRF's words by its mask, and EVQ_OVF by its operand. -/
theorem clrfByRule : Obligations.ClrfByRule := by
  unfold Obligations.ClrfByRule
  exact ⟨fun _ _ => decode_eq_clrf_iff, fun _ => decode_eq_none_of_clrf, fun _ => rfl, fun _ => rfl⟩

/-! ### Transmit requests -/

theorem dataFits_iff (d : Reg24) (len : FrameLen) : dataFits d len = true ↔ d.toNat < 2 ^ len.bits := by
  simp [dataFits]

/-- The TX commands are the request of their length (R192 to R194). -/
theorem exec_tx {d : Reg24} {i : Instr} {len : FrameLen}
    (h : (i, len) ∈ [(Instr.tx8 d, FrameLen.b8), (Instr.tx16 d, FrameLen.b16), (Instr.tx24 d, FrameLen.b24)])
    (s : State) : exec i s = .next (txRequest len d s) := by
  simp only [List.mem_cons, Prod.mk.injEq, List.not_mem_nil, or_false] at h
  obtain ⟨rfl, rfl⟩ | ⟨rfl, rfl⟩ | ⟨rfl, rfl⟩ := h <;> rfl

/-- Settles O11: the four outcomes of a transmit request exclude each other. -/
theorem txRequestByRule : Obligations.TxRequestByRule := by
  unfold Obligations.TxRequestByRule
  intro s d i len hi
  rw [exec_tx hi]
  simp only [← dataFits_iff, ← not_lt, Bool.not_eq_true]
  obtain ⟨hen, e⟩ | ⟨hen, hfit, e⟩ | ⟨hen, hfit, hfull, e⟩ | ⟨hen, hfit, hroom, e⟩ := txRequest_cases len d s
  all_goals rw [e]
  · exact ⟨fun _ => rfl, by simp [hen], by simp [hen], by simp [hen]⟩
  · exact ⟨by simp [hen], fun _ _ => rfl, by simp [hfit], by simp [hfit]⟩
  · exact ⟨by simp [hen], by simp [hfit], fun _ _ _ => rfl, fun _ _ hroom => absurd hfull hroom⟩
  · exact ⟨by simp [hen], by simp [hfit], fun _ _ hfull => absurd hfull hroom, fun _ _ _ => rfl⟩

/-! ### Configuration -/

/-- Settles O16: CFGW's words by its mask; the tests of a timing write by the register's index, and the one entry of the
register file the write sets. -/
theorem cfgwTimingByRule : Obligations.CfgwTimingByRule := by
  unfold Obligations.CfgwTimingByRule
  refine ⟨fun _ _ _ => decode_eq_cfgw_iff, fun s idx v hidx => ?_⟩
  obtain ⟨r, hr, hreg, hexec⟩ := exec_cfgw_timing (s := s) hidx v
  have hlegal := timingValueLegal_iff hr v
  rw [hreg] at hlegal
  rw [hexec]
  obtain ⟨hen, e⟩ | ⟨hen, hbad, e⟩ | ⟨hen, hgood, e⟩ := writeTiming_cases r v s <;> rw [e]
  · exact ⟨fun _ => rfl, by simp [hen], by simp [hen]⟩
  · refine ⟨by simp [hen], fun _ _ => rfl, fun _ htol hother => ?_⟩
    exact absurd (hlegal.2 ⟨htol, hother⟩) (by simp [hbad])
  · obtain ⟨htol, hother⟩ := hlegal.1 hgood
    refine ⟨by simp [hen], fun _ hbad => ?_, fun _ _ _ => ⟨s.cfg.write r v, ?_, rfl⟩⟩
    · obtain ⟨h1, hv⟩ | ⟨h1, hv⟩ := hbad
      · exact absurd (htol h1) (by omega)
      · exact absurd hv (hother h1)
    · rw [toList_write, hreg]

/-- Settles O21: CFGR's words by its mask, the register by its index, and ILLEGAL where no register has the index. -/
theorem cfgrByRule : Obligations.CfgrByRule := by
  unfold Obligations.CfgrByRule
  refine ⟨fun _ _ => decode_eq_cfgr_iff, fun _ => decode_eq_none_of_cfgr, fun _ => decode_eq_none_of_cfgw,
    fun s idx hidx => ?_, fun s hinv => ?_,
    fun _ _ v hidx => ⟨exec_cfgw_of_no_register hidx v, exec_cfgr_of_no_register hidx⟩⟩
  · obtain ⟨r, hr, hreg⟩ := exists_ofIdx hidx
    refine ⟨s.cfg.read r, ?_, exec_cfgr_of_ofIdx hr⟩
    rw [← hreg, toList_getElem?_regIndex]
  · obtain ⟨-, -, -, -, -, -, -, -, hctrl⟩ := hinv.registers
    exact ⟨_, rfl, zeroExtend_ctrl_reserved hctrl⟩

/-- Settles O17: both refusals of a CTRL write. -/
theorem ctrlWriteRefused : Obligations.CtrlWriteRefused := by
  unfold Obligations.CtrlWriteRefused
  intro s v h
  simp only [← jointOk_iff, Bool.not_eq_true] at h
  rw [exec_cfgw_ctrl, writeCtrl_of_refused h]
  rfl

/-- Settles O18: under JC1 to JC5 the write is accepted, and EN goes from 0 to 1. -/
theorem enableByRule : Obligations.EnableByRule := by
  unfold Obligations.EnableByRule
  intro s v hen hbit hv jc1 jc2 jc3 jc4 jc5
  have hjoint : jointOk s.cfg = true := (jointOk_iff _).2 ⟨jc1, jc2, jc3, jc4, jc5⟩
  rw [exec_cfgw_ctrl, writeCtrl_of_accepted hv (fun _ _ => hjoint), hen, hbit]
  rfl

/-- Settles O19: a write of EN = 0 is accepted whatever the registers hold, and EN goes from 1 to 0. -/
theorem disableByRule : Obligations.DisableByRule := by
  unfold Obligations.DisableByRule
  intro s v hen hbit hv
  refine ⟨{ s.pending with valid := false }, rfl, ?_⟩
  rw [exec_cfgw_ctrl, writeCtrl_of_accepted hv (by simp [hen]), hen, hbit]
  rfl

/-- Settles O20: a write that keeps EN meets no test of the joint constraints and no side effect. -/
theorem ctrlWriteKeepingEn : Obligations.CtrlWriteKeepingEn := by
  unfold Obligations.CtrlWriteKeepingEn
  intro s v hbit hv
  have hno : s.en = false → v.getLsbD 0 = true → jointOk s.cfg = true := by
    rw [hbit]
    intro hoff hon
    exact absurd (hoff.symm.trans hon) (by decide)
  rw [exec_cfgw_ctrl, writeCtrl_of_accepted hv hno, hbit, enChange_self]
  rfl

/-! ### The invariant at reset -/

/-- Settles O58: the reset state is that of a disabled block with legal registers. -/
theorem invariantAtReset : Obligations.InvariantAtReset := by
  unfold Obligations.InvariantAtReset
  have hen : State.reset.en = false := by decide
  have hreg : RegistersLegal State.reset.cfg := by decide
  exact ⟨invariant_of_disabled hen hreg ⟨rfl, rfl, rfl, rfl⟩ (Nat.zero_le _) (fun _ => rfl) (Nat.zero_le _), by decide⟩

end Sys2Proof.Machine
end

section
/-! PROOFS. The interrupt output (60_exceptions.md R233): what can take `irq` down. -/

namespace Sys2Proof.Machine

/-! ### What irq is made of -/

theorem irq_eq_false_iff (s : State) : s.irq = false ↔ s.cfg.ctrl.getLsbD 1 = false ∨ s.evq = [] := by
  rw [← Bool.not_eq_true, irq_iff, not_and_or, Bool.not_eq_true, not_not]

/-- From `s` to `t` the two things irq is computed from are kept: CTRL, for IRQ_EN, and EVQ (R233, log 9). -/
structure KeepsIrqSources (s t : State) : Prop where
  ctrl : t.cfg.ctrl = s.cfg.ctrl
  evq : t.evq = s.evq

theorem KeepsIrqSources.refl (s : State) : KeepsIrqSources s s := ⟨rfl, rfl⟩

theorem KeepsIrqSources.respond {s t : State} (st : Status) (d : Word) (h : KeepsIrqSources s t) :
    KeepsIrqSources s (respond st d t) := { h with }

theorem keepsIrqSources_raise (st : Status) (s : State) : KeepsIrqSources s (raise st s) :=
  (KeepsIrqSources.refl s).respond st 0

theorem KeepsIrqSources.irq_eq {s t : State} (h : KeepsIrqSources s t) : t.irq = s.irq := by
  rw [Bool.eq_iff_iff, irq_iff, irq_iff, h.ctrl, h.evq]

/-- An event queued before a tick is still queued after it, in its place (R165). -/
theorem EmitsAtMostOne.evq_prefix {s t : State} (h : EmitsAtMostOne s t) : s.evq <+: t.evq := by
  obtain ⟨hevq, -⟩ | ⟨-, -, ev, hevq⟩ | ⟨-, -, hevq⟩ := h.cases <;> rw [hevq]
  · exact List.prefix_append s.evq [ev]

/-- No tick takes irq down: it keeps CTRL and only adds to EVQ (R233). -/
theorem tickStep_keeps_irq {s : State} (hirq : s.irq = true) (l : Level) : (tickStep l s).irq = true := by
  obtain ⟨hen, hevq⟩ := (irq_iff s).1 hirq
  exact (irq_iff _).2 ⟨by rwa [tickStep_cfg], (tickStep_emitsAtMostOne l s).evq_prefix.ne_nil hevq⟩

/-! ### Commands that leave irq as it is -/

theorem keepsIrqSources_txRequest (len : FrameLen) (d : Reg24) (s : State) :
    KeepsIrqSources s (txRequest len d s) := by
  obtain ⟨-, e⟩ | ⟨-, -, e⟩ | ⟨-, -, -, e⟩ | ⟨-, -, -, e⟩ := txRequest_cases len d s <;> rw [e]
  · exact keepsIrqSources_raise _ s
  · exact keepsIrqSources_raise _ s
  · exact keepsIrqSources_raise _ s
  · exact ⟨rfl, rfl⟩

theorem keepsIrqSources_breakCommand (s : State) : KeepsIrqSources s (breakCommand s) := by
  obtain ⟨-, e⟩ | ⟨-, -, e⟩ | ⟨-, -, -, e⟩ := breakCommand_cases s <;> rw [e]
  · exact keepsIrqSources_raise _ s
  · exact keepsIrqSources_raise _ s
  · exact ⟨by rw [startBreak_cfg], startBreak_evq s⟩

theorem keepsIrqSources_writeTiming {r : CfgReg} (hr : r ≠ .ctrl) (v : Reg24) (s : State) :
    KeepsIrqSources s (writeTiming r v s) := by
  obtain ⟨-, e⟩ | ⟨-, -, e⟩ | ⟨-, -, e⟩ := writeTiming_cases r v s <;> rw [e]
  · exact keepsIrqSources_raise _ s
  · exact keepsIrqSources_raise _ s
  · exact ⟨write_ctrl_of_ne s.cfg v hr, rfl⟩

theorem keepsIrqSources_cfgw {s t : State} {idx : BitVec 4} {v : Reg24} (hidx : idx ≠ 8)
    (ht : exec (.cfgw idx v) s = .next t) : KeepsIrqSources s t := by
  have hnat : idx.toNat ≠ 8 := fun h => hidx (BitVec.eq_of_toNat_eq h)
  obtain hlow | hhigh : idx.toNat ≤ 7 ∨ 9 ≤ idx.toNat := by omega
  · obtain ⟨r, hr, -, e⟩ := exec_cfgw_timing (s := s) hlow v
    rw [e] at ht
    cases ht
    exact keepsIrqSources_writeTiming hr v s
  · rw [exec_cfgw_of_no_register hhigh] at ht
    cases ht
    exact keepsIrqSources_raise _ s

theorem keepsIrqSources_cfgr {s t : State} {idx : BitVec 4} (ht : exec (.cfgr idx) s = .next t) :
    KeepsIrqSources s t := by
  obtain ⟨st, d, e, -⟩ := respondsOnly_cfgr idx s
  rw [e] at ht
  cases ht
  exact (KeepsIrqSources.refl s).respond st d

/-- Every command but EVPOP, EVFLUSH and a CTRL write leaves irq as it is (R233). -/
theorem keepsIrqSources_exec {s t : State} {i : Instr} (hpop : i ≠ .evpop) (hflush : i ≠ .evflush)
    (hctrl : ∀ v, i ≠ .cfgw 8 v) (ht : exec i s = .next t) : KeepsIrqSources s t := by
  cases i with
  | nop => cases ht; exact (KeepsIrqSources.refl s).respond _ _
  | tx8 d => cases ht; exact keepsIrqSources_txRequest _ d s
  | tx16 d => cases ht; exact keepsIrqSources_txRequest _ d s
  | tx24 d => cases ht; exact keepsIrqSources_txRequest _ d s
  | brk => cases ht; exact keepsIrqSources_breakCommand s
  | evpop => exact absurd rfl hpop
  | evflush => exact absurd rfl hflush
  | status => cases ht; exact (KeepsIrqSources.refl s).respond _ _
  | cfgw idx v => exact keepsIrqSources_cfgw (fun h => hctrl v (h ▸ rfl)) ht
  | cfgr idx => exact keepsIrqSources_cfgr ht
  | clrf m => cases ht; exact KeepsIrqSources.respond _ _ ⟨by rw [clearOvf_cfg], clearOvf_evq m s⟩
  | rdnow => cases ht; exact (KeepsIrqSources.refl s).respond _ _
  | rdedge => cases ht; exact (KeepsIrqSources.refl s).respond _ _

/-! ### Commands that can take irq down -/

/-- EVPOP takes irq down with the last event only (R197, R233). -/
theorem evq_length_of_evpop_clears_irq {s t : State} (hirq : s.irq = true) (ht : exec .evpop s = .next t)
    (hclear : t.irq = false) : s.evq.length = 1 := by
  obtain ⟨hen, hevq⟩ := (irq_iff s).1 hirq
  obtain ⟨ev, rest, hq⟩ := List.exists_cons_of_ne_nil hevq
  rw [exec_evpop_of_cons hq] at ht
  cases ht
  obtain hoff | hrest : s.cfg.ctrl.getLsbD 1 = false ∨ rest = [] := (irq_eq_false_iff _).1 hclear
  · exact absurd (hoff.symm.trans hen) Bool.false_ne_true
  · rw [hq, hrest, List.length_singleton]

/-- A CTRL write keeps EVQ, and leaves CTRL as it was or with the value written (R201). -/
theorem writeCtrl_irqSources (v : Reg24) (s : State) :
    (writeCtrl v s).evq = s.evq
      ∧ ((writeCtrl v s).cfg.ctrl = s.cfg.ctrl ∨ (writeCtrl v s).cfg.ctrl = v) := by
  obtain e | ⟨-, -, -, -, e⟩ | ⟨-, -, -, e⟩ | ⟨-, -, e⟩ := writeCtrl_cases v s <;> rw [e]
  · exact ⟨rfl, .inl rfl⟩
  · exact ⟨rfl, .inr rfl⟩
  · exact ⟨rfl, .inr rfl⟩
  · exact ⟨rfl, .inr rfl⟩

/-- A CTRL write takes irq down only by IRQ_EN = 0: it keeps EVQ even when it disables the block (R208, R233). -/
theorem irqEn_of_ctrl_write_clears_irq {s : State} {v : Reg24} (hirq : s.irq = true)
    (hclear : (writeCtrl v s).irq = false) : v.getLsbD 1 = false := by
  obtain ⟨hen, hevq⟩ := (irq_iff s).1 hirq
  obtain ⟨hkept, hctrl⟩ := writeCtrl_irqSources v s
  have hoff : (writeCtrl v s).cfg.ctrl.getLsbD 1 = false :=
    ((irq_eq_false_iff _).1 hclear).resolve_right (by rwa [hkept])
  obtain hsame | hnew := hctrl
  · rw [hsame] at hoff
    exact absurd (hoff.symm.trans hen) Bool.false_ne_true
  · rwa [hnew] at hoff

/-- A command that takes irq down is an EVPOP of the last event, an EVFLUSH, or a CTRL write with IRQ_EN = 0 (R233). -/
theorem instr_of_clears_irq {s t : State} {i : Instr} (hirq : s.irq = true) (ht : exec i s = .next t)
    (hclear : t.irq = false) :
    (i = .evpop ∧ s.evq.length = 1) ∨ i = .evflush ∨ ∃ v, i = .cfgw 8 v ∧ v.getLsbD 1 = false := by
  by_cases hpop : i = .evpop
  · subst hpop
    exact .inl ⟨rfl, evq_length_of_evpop_clears_irq hirq ht hclear⟩
  by_cases hflush : i = .evflush
  · exact .inr (.inl hflush)
  by_cases hctrl : ∃ v, i = .cfgw 8 v
  · obtain ⟨v, rfl⟩ := hctrl
    rw [exec_cfgw_ctrl] at ht
    cases ht
    exact .inr (.inr ⟨v, rfl, irqEn_of_ctrl_write_clears_irq hirq hclear⟩)
  · have hkept := keepsIrqSources_exec hpop hflush (not_exists.1 hctrl) ht
    exact absurd (hclear.symm.trans (hkept.irq_eq.trans hirq)) Bool.false_ne_true

/-- Settles O53: irq is its two sources; no tick takes it down, and a command only as `instr_of_clears_irq` says. -/
theorem irqClearedOnlyByHost : Obligations.IrqClearedOnlyByHost := by
  unfold Obligations.IrqClearedOnlyByHost
  intro s
  refine ⟨?_, fun hirq => ⟨tickStep_keeps_irq hirq, fun _ _ => instr_of_clears_irq hirq⟩⟩
  exact (irq_iff s).trans (and_congr_right' List.length_pos_iff.symm)

end Sys2Proof.Machine
end

section
/-! PROOFS. Reset (70_reset_and_hazards.md R260, R261): the reset values, at the start and after a tick with rst = 1. -/

namespace Sys2Proof.Machine

/-- A placed tick with rst = 1 runs the reset step, and nothing of the command offered in it (R260). -/
theorem step_of_resetTick {s : State} {offered : Option Word} {rest : List Input}
    (hin : s.env.inputs = .resetTick offered :: rest) :
    step s = .next (resetStep { s with env := { s.env with inputs := rest } }) := by
  rw [step_of_inputs hin, runInput]

/-- Settles O9: the reset values do not depend on the environment, the one thing in which the state after a reset tick
differs from the state at the start. -/
theorem resetTickResets : Obligations.ResetTickResets := by
  unfold Obligations.ResetTickResets
  intro atReset
  have hvalues (e : Env) : atReset { State.reset with env := e } := by
    have hirq : State.irq { State.reset with env := e } = false := (irq_eq_false_iff _).2 (.inr rfl)
    exact ⟨rfl, rfl, rfl, rfl, rfl, rfl, rfl, rfl, rfl, rfl, rfl, rfl, rfl, hirq⟩
  exact ⟨hvalues Env.reset, fun _ _ _ hin => ⟨_, step_of_resetTick hin, hvalues _⟩⟩

end Sys2Proof.Machine
end

section
/-! PROOFS. Responses (43_host_commands.md section 6): a response other than OK leaves the rest of the state as it was
(R210), and which commands are answered OK, DISABLED or BUSY by CTRL.EN (R211). -/

namespace Sys2Proof.Machine

/-! ### OK, or nothing but the response -/

/-- From `s` to `t` the response is OK, or `t` is `s` with an error raised (R210). -/
def OkOrRaised (s t : State) : Prop := t.rspStatus = .ok ∨ ∃ st, t = raise st s

theorem okOrRaised_respond_ok (d : Word) (s t : State) : OkOrRaised s (respond .ok d t) := .inl rfl

theorem okOrRaised_raise (st : Status) (s : State) : OkOrRaised s (raise st s) := .inr ⟨st, rfl⟩

theorem okOrRaised_txRequest (len : FrameLen) (d : Reg24) (s : State) : OkOrRaised s (txRequest len d s) := by
  obtain ⟨-, e⟩ | ⟨-, -, e⟩ | ⟨-, -, -, e⟩ | ⟨-, -, -, e⟩ := txRequest_cases len d s <;> rw [e]
  · exact okOrRaised_raise _ s
  · exact okOrRaised_raise _ s
  · exact okOrRaised_raise _ s
  · exact okOrRaised_respond_ok _ s _

theorem okOrRaised_breakCommand (s : State) : OkOrRaised s (breakCommand s) := by
  obtain ⟨-, e⟩ | ⟨-, -, e⟩ | ⟨-, -, -, e⟩ := breakCommand_cases s <;> rw [e]
  · exact okOrRaised_raise _ s
  · exact okOrRaised_raise _ s
  · exact okOrRaised_respond_ok _ s _

theorem popEvent_rspStatus (s : State) : (popEvent s).rspStatus = .ok := by
  obtain ⟨-, e⟩ | ⟨_, _, -, e⟩ := popEvent_cases s <;> rw [e] <;> rfl

theorem okOrRaised_writeTiming (r : CfgReg) (v : Reg24) (s : State) : OkOrRaised s (writeTiming r v s) := by
  obtain ⟨-, e⟩ | ⟨-, -, e⟩ | ⟨-, -, e⟩ := writeTiming_cases r v s <;> rw [e]
  · exact okOrRaised_raise _ s
  · exact okOrRaised_raise _ s
  · exact okOrRaised_respond_ok _ s _

theorem okOrRaised_writeCtrl (v : Reg24) (s : State) : OkOrRaised s (writeCtrl v s) := by
  obtain e | ⟨-, -, -, -, e⟩ | ⟨-, -, -, e⟩ | ⟨-, -, e⟩ := writeCtrl_cases v s <;> rw [e]
  · exact okOrRaised_raise _ s
  · exact okOrRaised_respond_ok _ s _
  · exact okOrRaised_respond_ok _ s _
  · exact okOrRaised_respond_ok _ s _

theorem okOrRaised_exec {s t : State} {i : Instr} (ht : exec i s = .next t) : OkOrRaised s t := by
  cases i with
  | nop => cases ht; exact okOrRaised_respond_ok _ s _
  | tx8 d => cases ht; exact okOrRaised_txRequest _ d s
  | tx16 d => cases ht; exact okOrRaised_txRequest _ d s
  | tx24 d => cases ht; exact okOrRaised_txRequest _ d s
  | brk => cases ht; exact okOrRaised_breakCommand s
  | evpop => cases ht; exact .inl (popEvent_rspStatus s)
  | evflush => cases ht; exact okOrRaised_respond_ok _ s _
  | status => cases ht; exact okOrRaised_respond_ok _ s _
  | cfgw idx v =>
    simp only [exec, execCfgw] at ht
    split at ht <;> cases ht
    · rw [writeRegister_eq]
      split
      · exact okOrRaised_writeCtrl v s
      · exact okOrRaised_writeTiming _ v s
    · exact okOrRaised_raise _ s
  | cfgr idx =>
    simp only [exec, execCfgr] at ht
    split at ht <;> cases ht
    · exact okOrRaised_respond_ok _ s _
    · exact okOrRaised_raise _ s
  | clrf m => cases ht; exact okOrRaised_respond_ok _ s _
  | rdnow => cases ht; exact okOrRaised_respond_ok _ s _
  | rdedge => cases ht; exact okOrRaised_respond_ok _ s _

theorem okOrRaised_commandStep {s t : State} {w : Word} (ht : commandStep w s = .next t) : OkOrRaised s t := by
  unfold commandStep at ht
  split at ht
  · exact okOrRaised_exec ht
  · cases ht; exact okOrRaised_raise _ s

/-- Settles O24: every command step that does not answer OK is a `raise`, which sets the response alone. -/
theorem refusedCommandChangesNothing : Obligations.RefusedCommandChangesNothing := by
  unfold Obligations.RefusedCommandChangesNothing
  intro w s t ht hne
  obtain hok | ⟨st, rfl⟩ := okOrRaised_commandStep ht
  · exact absurd hok hne
  · rfl

/-! ### Responses by CTRL.EN -/

section
variable {s : State} {i : Instr}

/-- These commands are answered OK, whether the block is enabled or not (R195 to R205). -/
theorem exec_ok_of_always_accepted (hi : i ∈ [.nop, .evpop, .evflush, .status, .rdnow, .rdedge]
      ∨ (∃ m, i = .clrf m) ∨ ∃ idx, idx.toNat ≤ 8 ∧ i = .cfgr idx) :
    ∃ t, exec i s = .next t ∧ t.rspStatus = .ok := by
  obtain hi | ⟨m, rfl⟩ | ⟨idx, hidx, rfl⟩ := hi
  · simp only [List.mem_cons, List.not_mem_nil, or_false] at hi
    obtain rfl | rfl | rfl | rfl | rfl | rfl := hi
    · exact ⟨_, rfl, rfl⟩
    · exact ⟨_, rfl, popEvent_rspStatus s⟩
    · exact ⟨_, rfl, rfl⟩
    · exact ⟨_, rfl, rfl⟩
    · exact ⟨_, rfl, rfl⟩
    · exact ⟨_, rfl, rfl⟩
  · exact ⟨_, rfl, rfl⟩
  · obtain ⟨r, hr, -⟩ := exists_ofIdx hidx
    exact ⟨_, exec_cfgr_of_ofIdx hr, rfl⟩

/-- A disabled block takes a configuration write, or answers BAD_ARG to its value (R200, R201). -/
theorem exec_cfgw_of_disabled (hen : s.en = false) {idx : BitVec 4} (hidx : idx.toNat ≤ 8) (v : Reg24) :
    ∃ t, exec (.cfgw idx v) s = .next t ∧ (t.rspStatus = .ok ∨ t.rspStatus = .badArg) := by
  obtain ⟨r, hr, -⟩ := exists_ofIdx hidx
  refine ⟨_, exec_cfgw_of_ofIdx hr v, ?_⟩
  rw [writeRegister_eq]
  split
  · obtain e | ⟨-, -, -, -, e⟩ | ⟨-, -, -, e⟩ | ⟨-, -, e⟩ := writeCtrl_cases v s <;> rw [e]
    · exact .inr rfl
    · exact .inl rfl
    · exact .inl rfl
    · exact .inl rfl
  · obtain ⟨hon, -⟩ | ⟨-, -, e⟩ | ⟨-, -, e⟩ := writeTiming_cases r v s
    · exact absurd (hen.symm.trans hon) Bool.false_ne_true
    · rw [e]; exact .inr rfl
    · rw [e]; exact .inl rfl

/-- EN is the first thing a TX command tests (R191). -/
theorem exec_tx_of_disabled (hen : s.en = false) {d : Reg24} (hi : i = .tx8 d ∨ i = .tx16 d ∨ i = .tx24 d) :
    exec i s = .next (raise .disabled s) := by
  have refused : ∀ len, txRequest len d s = raise .disabled s := fun len => by
    rw [txRequest, hen]
    rfl
  obtain ⟨len, hlen⟩ : ∃ len, (i, len) ∈
      [(Instr.tx8 d, FrameLen.b8), (Instr.tx16 d, FrameLen.b16), (Instr.tx24 d, FrameLen.b24)] := by
    obtain rfl | rfl | rfl := hi
    · exact ⟨.b8, by simp⟩
    · exact ⟨.b16, by simp⟩
    · exact ⟨.b24, by simp⟩
  rw [exec_tx hlen, refused]

theorem exec_brk_of_disabled (hen : s.en = false) : exec .brk s = .next (raise .disabled s) := by
  rw [exec, execBreak, breakCommand, hen]
  rfl

/-- EN is the first thing a write of a timing register tests (R200). -/
theorem exec_cfgw_timing_of_enabled (hen : s.en = true) {idx : BitVec 4} (hidx : idx.toNat ≤ 7) (v : Reg24) :
    exec (.cfgw idx v) s = .next (raise .busy s) := by
  obtain ⟨r, -, -, e⟩ := exec_cfgw_timing (s := s) hidx v
  rw [e, writeTiming, if_pos hen]

end

/-- Settles O25: list by list, the first test of each command's rule. -/
theorem responsesByEnable : Obligations.ResponsesByEnable := by
  unfold Obligations.ResponsesByEnable
  intro s i
  refine ⟨fun _ => exec_ok_of_always_accepted, ?_, fun hen hi => ?_, ?_⟩
  · rintro hen ⟨idx, v, hidx, rfl⟩
    exact exec_cfgw_of_disabled hen hidx v
  · obtain rfl | ⟨d, hi⟩ := hi
    · exact ⟨_, exec_brk_of_disabled hen, rfl⟩
    · exact ⟨_, exec_tx_of_disabled hen hi, rfl⟩
  · rintro hen ⟨idx, v, hidx, rfl⟩
    exact ⟨_, exec_cfgw_timing_of_enabled hen hidx v, rfl⟩

end Sys2Proof.Machine
end

section
/-! PROOFS. The laws of a pending outcome: which event ends it (41_collision_detector.md R137, R138, R140), and by when
(60_exceptions.md R242). -/

namespace Sys2Proof.Machine

/-! ### The event of a burst resolved against the descriptor -/

/-- The event that resolving `r` against the descriptor of `s` emits (R131 to R134). -/
def outcomeEvent (r : DecodeResult) (s : State) : Event :=
  match r with
  | .busFail => .busFailure true
  | .noFrame => .collisionDetected .emptyEcho
  | .err e => .collisionDetected (.framing e)
  | .frame v n =>
    if n ≠ s.pending.len.bits then .collisionDetected (.lenMismatch (BitVec.ofNat 6 n))
    else if v ≠ s.pending.data.toNat then .collisionDetected (.dataMismatch (BitVec.ofNat 24 v))
    else .txCompleted s.pending.len s.pending.data

theorem resolvePending_evq_eq (r : DecodeResult) (s : State) :
    (resolvePending r s).evq = (emit (outcomeEvent r s) s).evq := by
  cases r with
  | busFail => rfl
  | noFrame => rfl
  | err e => rfl
  | frame v n =>
    simp only [resolvePending, resolveEcho, outcomeEvent]
    split
    · rfl
    · split <;> rfl

theorem outcomeEvent_of_mismatch {s : State} {v n : Nat}
    (h : n ≠ s.pending.len.bits ∨ v ≠ s.pending.data.toNat) :
    ∃ reason, outcomeEvent (.frame v n) s = .collisionDetected reason := by
  by_cases hn : n ≠ s.pending.len.bits
  · exact ⟨_, if_pos hn⟩
  · exact ⟨_, (if_neg hn).trans (if_pos (h.resolve_left hn))⟩

/-- Only an exact match completes a transmission (R134). -/
theorem match_of_outcomeEvent_completed {r : DecodeResult} {s : State} {len : FrameLen} {v : Reg24}
    (h : outcomeEvent r s = .txCompleted len v) :
    r = .frame s.pending.data.toNat s.pending.len.bits ∧ len = s.pending.len ∧ v = s.pending.data := by
  cases r with
  | busFail => cases h
  | noFrame => cases h
  | err e => cases h
  | frame w n =>
    simp only [outcomeEvent] at h
    split_ifs at h with hn hw
    obtain ⟨rfl, rfl⟩ := Event.txCompleted.inj h
    exact ⟨by rw [not_not.mp hn, not_not.mp hw], rfl, rfl⟩

/-- Settles O39: the one event queued is `outcomeEvent`, a collision for any mismatch and TX_COMPLETED for none. -/
theorem collisionLaw : Obligations.CollisionLaw := by
  unfold Obligations.CollisionLaw
  intro s burst hpv hroom
  have hevq : (resolve burst s).evq
      = s.evq ++ [outcomeEvent (decodeBurst s.cfg (burst.map CapPulse.pulse)) s] := by
    rw [resolve_of_pending hpv, resolvePending_evq_eq, emit_evq_of_room _ hroom]
  refine ⟨fun v n hr hne => ?_, fun len v hcompleted => ?_⟩
  · obtain ⟨reason, hreason⟩ := outcomeEvent_of_mismatch hne
    exact ⟨reason, by rw [hevq, hr, hreason]⟩
  · rw [hevq, List.append_cancel_left_eq, List.singleton_inj] at hcompleted
    exact match_of_outcomeEvent_completed hcompleted

/-! ### A tick with an outcome pending -/

/-- The outcome events are the three R140 names. -/
theorem PendingOutcome.event_cases {s : State} {ev : Event} {k : Kind} (h : PendingOutcome s ev k) :
    (∃ len v, ev = .txCompleted len v) ∨ (∃ r, ev = .collisionDetected r) ∨ ev = .busFailure true := by
  cases h with
  | completed => exact .inl ⟨_, _, rfl⟩
  | collision r => exact .inr (.inl ⟨r, rfl⟩)
  | busFailure => exact .inr (.inr rfl)

section
variable {l : Level} {s : State}

/-- A descriptor closed by phase 5 stays closed, or is the one of a request that starts with the next tick (R163). -/
theorem tickStep_pending_of_closed (h : (beforeSequencer l s).pending.valid = false) :
    (tickStep l s).pending.valid = false ∨ (tickStep l s).pending.start = s.now + 1 := by
  have hclosed : (beforeStart l s).pending.valid = false := by
    rw [beforeStart_eq_beforeSequencer, sequencerPhase_pending, h]
  obtain e | ⟨r, rest, -, -, e⟩ := tickStep_start_cases l s <;> rw [e]
  · exact .inl hclosed
  · exact .inr (by rw [clockPhase_pending, startRequest_pending, beforeStart_now])

/-- What a tick can do while an outcome is pending: leave it pending and report nothing, which it does only before the
echo timer has run out; or report one outcome event and close the descriptor (R137, R140, R159). -/
theorem tickStep_of_pending (hpv : s.pending.valid = true) :
    ((tickStep l s).pending = s.pending ∧ (tickStep l s).evq = s.evq ∧ echoExpired s = false)
    ∨ ∃ ev k, PendingOutcome s ev k
        ∧ ((tickStep l s).evq = (emit ev s).evq ∧ (tickStep l s).evqOvf = (emit ev s).evqOvf)
        ∧ ((tickStep l s).pending.valid = false ∨ (tickStep l s).pending.start = s.now + 1) := by
  by_cases hburst : ∃ burst, BurstEnds l s burst
  · obtain ⟨burst, hburst⟩ := hburst
    obtain ⟨ev, k, tx, hev, -, e⟩ := resolveResult_pending (decodeBurst s.cfg (burst.map CapPulse.pulse)) s hpv
    have hevq := tickStep_evq_of_burstEnds hburst
    rw [resolve, e] at hevq
    refine .inr ⟨ev, k, hev, hevq, tickStep_pending_of_closed ?_⟩
    rw [beforeSequencer_of_burstEnds hburst, resolve_pending_valid]
  · have hnone : ∀ burst, ¬ BurstEnds l s burst := not_exists.mp hburst
    cases hx : echoExpired s
    · obtain ⟨hevq, -, hpending⟩ := tickStep_of_no_timeout hnone hx hpv
      exact .inl ⟨hpending, hevq, rfl⟩
    · refine .inr ⟨_, _, .collision s .echoTimeout, tickStep_evq_of_timeout hnone hx, tickStep_pending_of_closed ?_⟩
      obtain ⟨c, e, hsame⟩ := beforeSequencer_of_no_burstEnds hnone
      rw [e, echoPhase_of_expired (hsame.trans hx)]

/-- From `s` to `t` one outcome event is queued last, unless EVQ is full, which sets EVQ_OVF (R140, R165). -/
def OutcomeReported (s t : State) : Prop :=
  (s.evq.length < Config.evqDepth → ∃ ev, t.evq = s.evq ++ [ev]
    ∧ ((∃ len v, ev = .txCompleted len v) ∨ (∃ r, ev = .collisionDetected r) ∨ ev = .busFailure true))
  ∧ (Config.evqDepth ≤ s.evq.length → t.evq = s.evq ∧ t.evqOvf = true)

theorem PendingOutcome.reported {t : State} {ev : Event} {k : Kind} (h : PendingOutcome s ev k)
    (hevq : t.evq = (emit ev s).evq ∧ t.evqOvf = (emit ev s).evqOvf) : OutcomeReported s t := by
  unfold OutcomeReported
  obtain ⟨hroom, e⟩ | ⟨hfull, e⟩ := emit_cases ev s <;> rw [e] at hevq
  · obtain ⟨hqueued, -⟩ := hevq
    exact ⟨fun _ => ⟨ev, hqueued, h.event_cases⟩, fun hfull => absurd hroom hfull.not_gt⟩
  · exact ⟨fun hroom => absurd hroom hfull.not_gt, fun _ => hevq⟩

end

/-- Settles O49: with an outcome pending a tick's only event is an outcome event. -/
theorem ownEchoNeverReceived : Obligations.OwnEchoNeverReceived := by
  unfold Obligations.OwnEchoNeverReceived
  intro l s ev hpv hevq
  obtain ⟨-, hkept, -⟩ | ⟨ev', k, hev, ⟨hqueued, -⟩, -⟩ := tickStep_of_pending (l := l) hpv
  · simp [hkept] at hevq
  · obtain ⟨-, e⟩ | ⟨-, e⟩ := emit_cases ev' s <;> rw [hevq, e] at hqueued
    · rw [List.append_cancel_left_eq, List.singleton_inj] at hqueued
      exact hqueued ▸ hev.event_cases
    · simp at hqueued

/-- Settles O50: a tick that reports no outcome keeps the descriptor. -/
theorem pendingEndsWithOneOutcome : Obligations.PendingEndsWithOneOutcome := by
  unfold Obligations.PendingEndsWithOneOutcome
  intro l s hpv hne
  obtain ⟨hkept, -, -⟩ | ⟨ev, k, hev, hevq, -⟩ := tickStep_of_pending (l := l) hpv
  · exact absurd hkept hne
  · exact hev.reported hevq

/-! ### Runs of ticks with an outcome pending -/

/-- A tick with an outcome pending either brings the echo timer one tick on, or gives the descriptor up with an outcome
event: a request started in its place has another PT (R159, R163). -/
theorem Invariant.tickStep_of_pending {s : State} (h : Invariant s) (hpv : s.pending.valid = true) (l : Level) :
    ((tickStep l s).pending = s.pending ∧ (tickStep l s).evq = s.evq
      ∧ (s.now - s.pending.start).toNat < s.cfg.echoTimeoutTicks.toNat
      ∧ ((tickStep l s).now - s.pending.start).toNat = (s.now - s.pending.start).toNat + 1)
    ∨ ((tickStep l s).pending ≠ s.pending ∧ OutcomeReported s (tickStep l s)) := by
  obtain ⟨hkept, hevq, hx⟩ | ⟨ev, k, hev, hevq, hclosed⟩ := Machine.tickStep_of_pending (l := l) hpv
  · obtain ⟨hsucc, hlt⟩ := elapsed_succ hpv hx
    exact .inl ⟨hkept, hevq, hlt, by rw [tickStep_now, hsucc]⟩
  · refine .inr ⟨fun hsame => ?_, hev.reported hevq⟩
    rw [hsame] at hclosed
    obtain hclosed | hstart := hclosed
    · exact absurd (hclosed.symm.trans hpv) Bool.false_ne_true
    · obtain ⟨-, helapsed, -⟩ := h.pending hpv
      have hmax := s.cfg.echoTimeoutTicks.isLt
      rw [hstart] at helapsed
      bv_omega

/-- Settles O56: tick by tick, each one that does not give the descriptor up brings the echo timer nearer to its end. -/
theorem outcomeWithinEchoTimeout : Obligations.OutcomeWithinEchoTimeout := by
  unfold Obligations.OutcomeWithinEchoTimeout
  intro s sense h hpv hlen
  induction sense generalizing s with
  | nil =>
    obtain ⟨-, helapsed, -⟩ := h.pending hpv
    rw [List.length_nil] at hlen
    omega
  | cons l sense ih =>
    obtain ⟨hkept, hevq, hlt, hsucc⟩ | ⟨hne, hreported⟩ := h.tickStep_of_pending hpv l
    · rw [List.length_cons] at hlen
      have hlen' : sense.length = (tickStep l s).cfg.echoTimeoutTicks.toNat + 1
          - ((tickStep l s).now - (tickStep l s).pending.start).toNat := by
        rw [tickStep_cfg, hkept, hsucc]
        omega
      obtain ⟨k, hk, hbefore, hafter⟩ := ih (tickStep l s) (invariant_tickStep l h) (hkept ▸ hpv) hlen'
      rw [hkept, hevq] at hafter
      refine ⟨k + 1, by simpa using hk, fun j hj => ?_, hafter⟩
      cases j with
      | zero => exact ⟨rfl, rfl⟩
      | succ j => simpa [hkept, hevq] using hbefore j (by omega)
    · refine ⟨0, by simp, fun j hj => ?_, hne, hreported⟩
      obtain rfl : j = 0 := by omega
      exact ⟨rfl, rfl⟩

end Sys2Proof.Machine
end

section
/-! PROOFS. Bad pulses and long bursts (40_manchester_codec.md R114, R115): what a half-bit outside both bands does to
decoding, and how far into a burst decoding reads. -/

namespace Sys2Proof.Machine

/-! ### Results behind the start of a burst -/

section
variable {h : List HalfBit} {t : Bool} {fuel i n v v' n' : Nat}

/-- Once bits are being read, decoding ends in a framing error or in a frame (R112). -/
theorem decodeBits_err_or_frame (h : List HalfBit) (t : Bool) (fuel i n v : Nat) :
    (∃ e, decodeBits h t fuel i n v = .err e) ∨ ∃ v' n', decodeBits h t fuel i n v = .frame v' n' := by
  induction fuel generalizing i n v with
  | zero => exact .inr ⟨v, n, rfl⟩
  | succ fuel ih =>
    cases hp : pairEval (halfAt h t i) (halfAt h t (i + 1)) with
    | bit b =>
      rw [decodeBits_bit hp]
      exact ih _ _ _
    | stop =>
      rw [decodeBits_stop hp]
      split
      · exact .inl ⟨_, rfl⟩
      · exact .inr ⟨v, n, rfl⟩
    | err e => exact .inl ⟨e, decodeBits_err hp⟩

theorem decodeHalfBits_err_or_frame (h : List HalfBit) (t : Bool) :
    (∃ e, decodeHalfBits h t = .err e) ∨ ∃ v n, decodeHalfBits h t = .frame v n := by
  unfold decodeHalfBits
  split
  case h_1 => exact decodeBits_err_or_frame h t Config.maxBits 2 0 0
  all_goals exact .inl ⟨_, rfl⟩

/-! ### A half-bit outside both bands (R114) -/

theorem mem_drop_succ_of_halfAt_ne {x : HalfBit} (hx : x ∈ h.drop i) (hne : halfAt h t i ≠ x) :
    x ∈ h.drop (i + 1) := by
  have hi : i < h.length := by
    by_contra hge
    simp [List.drop_eq_nil_of_le (not_lt.mp hge)] at hx
  rw [List.drop_eq_getElem_cons hi, List.mem_cons] at hx
  refine hx.resolve_left fun heq => hne ?_
  simp [halfAt, hi, heq]

/-- A position that reads as a bit or a stop has no bad half-bit, so one that is to come lies behind it (R108). -/
theorem bad_mem_drop_add_two (hbad : .bad ∈ h.drop i)
    (hp : ∀ e, pairEval (halfAt h t i) (halfAt h t (i + 1)) ≠ .err e) : .bad ∈ h.drop (i + 2) := by
  have hfirst : halfAt h t i ≠ .bad := fun hx => hp .badDuration (by rw [hx]; rfl)
  have hsecond : halfAt h t (i + 1) ≠ .bad := by
    intro hy
    rw [hy] at hp
    cases hx : halfAt h t i with
    | level l => exact hp .badDuration (by rw [hx]; cases l <;> rfl)
    | bad => exact hfirst hx
    | ended => exact hp .noStop (by rw [hx]; rfl)
  exact mem_drop_succ_of_halfAt_ne (mem_drop_succ_of_halfAt_ne hbad hfirst) hsecond

/-- A frame read over a bad half-bit to come can only have ended at its last possible bit, before it (R110). -/
theorem bits_of_decodeBits_eq_frame_of_bad (hbad : .bad ∈ h.drop i)
    (hf : decodeBits h t fuel i n v = .frame v' n') : n' = n + fuel := by
  induction fuel generalizing i n v with
  | zero =>
    obtain ⟨-, rfl⟩ := DecodeResult.frame.inj hf
    rfl
  | succ fuel ih =>
    cases hp : pairEval (halfAt h t i) (halfAt h t (i + 1)) with
    | bit b =>
      rw [decodeBits_bit hp] at hf
      rw [ih (bad_mem_drop_add_two (t := t) hbad (by simp [hp])) hf]
      omega
    | stop =>
      have hbehind := bad_mem_drop_add_two (t := t) hbad (by simp [hp])
      rw [decodeBits_stop hp] at hf
      split_ifs at hf with hlen
      simp [List.drop_eq_nil_of_le (not_lt.mp hlen)] at hbehind
    | err e =>
      rw [decodeBits_err hp] at hf
      cases hf

theorem bits_of_decodeHalfBits_eq_frame_of_bad (hbad : .bad ∈ h) (hf : decodeHalfBits h t = .frame v n) :
    n = Config.maxBits := by
  have hstart : ∀ e, pairEval (halfAt h t 0) (halfAt h t 1) ≠ .err e := by
    intro e he
    rw [decodeHalfBits, he] at hf
    cases e <;> cases hf
  have hbehind : .bad ∈ h.drop 2 := bad_mem_drop_add_two (i := 0) hbad hstart
  simpa using bits_of_decodeBits_eq_frame_of_bad hbehind (decodeBits_of_decodeHalfBits_eq_frame hf)

end

section
variable {c : CfgFile} {burst : List Pulse}

theorem bad_mem_halfBits {body : List Pulse} (h : ∃ p ∈ body, classify c p.2 = .bad) : .bad ∈ halfBits c body := by
  obtain ⟨p, hp, hclass⟩ := h
  exact List.mem_flatMap.mpr ⟨p, hp, by simp [pulseHalfBits, hclass]⟩

/-- A burst that is no bus failure and has a BODY is read as half-bits (R106, R107). -/
theorem decodeBurst_of_bodyOf_ne_nil (hbody : bodyOf c burst ≠ [])
    (hfirst : ∀ p ∈ burst.head?, isBusFailure c p = false) :
    decodeBurst c burst = decodeHalfBits (halfBits c (bodyOf c burst)) (terminatingIndex c burst).isSome := by
  cases burst with
  | nil => exact absurd rfl hbody
  | cons p rest =>
    have hp : isBusFailure c p = false := hfirst p rfl
    have hindex : terminatingIndex c (p :: rest) ≠ some 0 := fun h0 => hbody (by simp [bodyOf, h0])
    simp [decodeBurst, hp, hindex]

/-- Settles O30: decoding goes past a bad half-bit only by an error, so a frame has used up its 32 bits before it. -/
theorem badPulseNeverValidFrame : Obligations.BadPulseNeverValidFrame := by
  unfold Obligations.BadPulseNeverValidFrame
  intro c burst hpulse
  have hbad := bad_mem_halfBits hpulse
  have hbits : ∀ v n, decodeBurst c burst = .frame v n → n = 32 := fun v n hf =>
    bits_of_decodeHalfBits_eq_frame_of_bad hbad (decodeHalfBits_of_decodeBurst_eq_frame hf)
  refine ⟨hbits, fun hfirst => ?_⟩
  have hbody : bodyOf c burst ≠ [] := by
    obtain ⟨p, hp, -⟩ := hpulse
    exact List.ne_nil_of_mem hp
  have hdecode := decodeBurst_of_bodyOf_ne_nil hbody fun p hp =>
    Bool.eq_false_iff.mpr fun h => hfirst p hp (isBusFailure_iff.mp h)
  obtain ⟨e, he⟩ | ⟨v, n, hf⟩ := decodeHalfBits_err_or_frame (halfBits c (bodyOf c burst))
    (terminatingIndex c burst).isSome
  · exact .inl ⟨e, hdecode.trans he⟩
  · rw [← hdecode] at hf
    obtain rfl := hbits v n hf
    exact .inr ⟨v, hf⟩

end

/-! ### How far decoding reads (R115) -/

section
variable {g : List HalfBit} {i fuel : Nat}

theorem halfAt_append (hi : i < g.length) (r : List HalfBit) (t : Bool) : halfAt (g ++ r) t i = g[i] := by
  simp [halfAt, List.getElem?_append_left hi, hi]

/-- `fuel` bits read from position `i` depend on the half-bits up to position `i + 2 * fuel` alone, if the burst is
known to go on there (R110, R111). -/
theorem decodeBits_append_congr (hlen : i + 2 * fuel < g.length) (r r' : List HalfBit) (t t' : Bool) (n v : Nat) :
    decodeBits (g ++ r) t fuel i n v = decodeBits (g ++ r') t' fuel i n v := by
  induction fuel generalizing i n v with
  | zero => rfl
  | succ fuel ih =>
    have htrailing : ∀ r : List HalfBit, i + 2 < (g ++ r).length := fun r => by
      rw [List.length_append]
      omega
    simp only [decodeBits, halfAt_append (by omega : i < g.length), halfAt_append (by omega : i + 1 < g.length),
      if_pos (htrailing _)]
    split
    · exact ih (by omega) _ _
    · rfl
    · rfl

/-- Decoding reads the start bit, 32 data bits, and whether the burst goes on behind them. -/
theorem decodeHalfBits_append_congr (hlen : 2 + 2 * Config.maxBits < g.length) (r r' : List HalfBit) (t t' : Bool) :
    decodeHalfBits (g ++ r) t = decodeHalfBits (g ++ r') t' := by
  have h0 : 0 < g.length := by omega
  have h1 : 1 < g.length := by omega
  simp only [decodeHalfBits, halfAt_append h0, halfAt_append h1, decodeBits_append_congr hlen r r' t t']

end

theorem pulseHalfBits_length_pos (c : CfgFile) (p : Pulse) : 1 ≤ (pulseHalfBits c p).length := by
  unfold pulseHalfBits
  split
  · exact le_rfl
  · exact Nat.le_succ 1
  · exact le_rfl

theorem length_le_halfBits_length (c : CfgFile) (body : List Pulse) : body.length ≤ (halfBits c body).length := by
  induction body with
  | nil => exact Nat.zero_le _
  | cons p body ih =>
    have hp := pulseHalfBits_length_pos c p
    simp only [halfBits, List.flatMap_cons, List.length_append, List.length_cons] at ih ⊢
    omega

theorem halfBits_append (c : CfgFile) (a b : List Pulse) : halfBits c (a ++ b) = halfBits c a ++ halfBits c b :=
  List.flatMap_append

theorem not_longIdle_of_lt_burstLimit {c : CfgFile} {p : Pulse} (h : p.2 < burstLimit c p.1) :
    ¬ (p.1 = .idle ∧ c.longIdleTicks.toNat ≤ p.2) := by
  rintro ⟨hidle, hlong⟩
  rw [hidle] at h
  exact absurd h hlong.not_gt

theorem isBusFailure_of_lt_burstLimit {c : CfgFile} {p : Pulse} (h : p.2 < burstLimit c p.1) :
    isBusFailure c p = false := by
  refine Bool.eq_false_iff.mpr fun hfail => ?_
  obtain ⟨hactive, hlong⟩ := isBusFailure_iff.mp hfail
  rw [hactive] at h
  exact absurd h hlong.not_gt

/-- A burst in which no pulse but the last reaches its threshold: BODY is all of them, with the last where it is active
(R105). -/
theorem decodeBurst_concat {c : CfgFile} {init : List Pulse} (hne : init ≠ [])
    (hinit : ∀ p ∈ init, p.2 < burstLimit c p.1) (last : Pulse) :
    ∃ r t, decodeBurst c (init ++ [last]) = decodeHalfBits (halfBits c (init ++ r)) t := by
  have hshort : ∀ p ∈ init, ¬ (p.1 = .idle ∧ c.longIdleTicks.toNat ≤ p.2) := fun p hp =>
    not_longIdle_of_lt_burstLimit (hinit p hp)
  have hfirst : ∀ p ∈ init.head?, isBusFailure c p = false := fun p hp =>
    isBusFailure_of_lt_burstLimit (hinit p (List.mem_of_mem_head? hp))
  obtain ⟨l, d⟩ := last
  cases l with
  | idle =>
    refine ⟨[], true, ?_⟩
    rw [List.append_nil]
    exact decodeBurst_terminated hne hfirst (terminatingIndex_lastIdle hshort d)
  | active =>
    refine ⟨[(.active, d)], false, decodeBurst_unterminated (by simp) ?_ (terminatingIndex_eq_none ?_ (by simp))⟩
    · rwa [List.head?_append_of_ne_nil _ hne]
    · rw [List.forall_mem_append, List.forall_mem_singleton]
      exact ⟨hshort, by simp⟩

/-- Settles O31: 79 pulses make more half-bits than decoding ever reads, and both bursts begin with the same 79. -/
theorem truncationKeepsResult : Obligations.TruncationKeepsResult := by
  unfold Obligations.TruncationKeepsResult
  intro c burst hlen hshort
  obtain rfl | ⟨init, last, rfl⟩ := burst.eq_nil_or_concat'
  · exact absurd hlen (by simp)
  rw [List.dropLast_concat] at hshort
  rw [List.length_append, List.length_singleton] at hlen
  have hinit : 79 < init.length := by omega
  have htake : (init ++ [last]).take 80 = init.take 79 ++ [init[79]] := by
    rw [List.take_append_of_le_length hinit, List.take_concat_get' _ _ hinit]
  have hne : init.take 79 ≠ [] := by
    rw [← List.length_pos_iff, List.length_take]
    omega
  obtain ⟨r, t, hcut⟩ := decodeBurst_concat hne (fun p hp => hshort p (List.mem_of_mem_take hp)) init[79]
  obtain ⟨r', t', hfull⟩ := decodeBurst_concat (List.ne_nil_of_length_pos (by omega)) hshort last
  have hread : 2 + 2 * Config.maxBits < (halfBits c (init.take 79)).length := by
    have hle := length_le_halfBits_length c (init.take 79)
    rw [List.length_take] at hle
    simp only [Config.maxBits]
    omega
  have hbody : halfBits c (init ++ r') = halfBits c (init.take 79) ++ halfBits c (init.drop 79 ++ r') := by
    rw [← halfBits_append, ← List.append_assoc, List.take_append_drop]
  rw [htake, hcut, hfull, hbody, halfBits_append]
  exact decodeHalfBits_append_congr hread _ _ t t'

end Sys2Proof.Machine
end

section
/-! PROOFS. Runs of equal levels (40_manchester_codec.md R101, R102): a sequence of levels and its runs give each other
back, how a run list grows with the sequence, and the runs of a frame. -/

namespace Sys2Proof.Machine

/-! ### A sequence and its runs -/

/-- The levels a list of runs stands for. -/
def expandRuns (runs : List Pulse) : List Level := runs.flatMap fun p => List.replicate p.2 p.1

/-- Runs as R101 means them: none is empty, and neighbours have different levels. -/
structure IsRuns (runs : List Pulse) : Prop where
  pos : ∀ p ∈ runs, 1 ≤ p.2
  chain : runs.IsChain fun p q => p.1 ≠ q.1

@[simp] theorem expandRuns_nil : expandRuns [] = [] := rfl

@[simp] theorem expandRuns_cons (p : Pulse) (runs : List Pulse) :
    expandRuns (p :: runs) = List.replicate p.2 p.1 ++ expandRuns runs := rfl

@[simp] theorem expandRuns_append (a b : List Pulse) : expandRuns (a ++ b) = expandRuns a ++ expandRuns b :=
  List.flatMap_append

theorem expandRuns_length (runs : List Pulse) : (expandRuns runs).length = (runs.map (·.2)).sum := by
  induction runs with
  | nil => rfl
  | cons p runs ih => simp [ih]

theorem levelRuns_cons_of_ne {l l' : Level} (h : l ≠ l') (xs : List Level) :
    levelRuns (l :: l' :: xs) = (l, 1) :: levelRuns (l' :: xs) := by
  obtain ⟨k, more, e⟩ : ∃ k more, levelRuns (l' :: xs) = (l', k) :: more := by
    rw [levelRuns]
    split
    · exact ⟨_, _, rfl⟩
    · split
      · exact ⟨_, _, rfl⟩
      · exact ⟨_, _, rfl⟩
  rw [levelRuns, e]
  exact if_neg h

theorem levelRuns_cons_of_eq_cons {l : Level} {xs : List Level} {k : Nat} {more : List Pulse}
    (h : levelRuns xs = (l, k) :: more) : levelRuns (l :: xs) = (l, k + 1) :: more := by
  rw [levelRuns, h]
  exact if_pos rfl

/-- The levels of a run and of runs behind it that begin with another level. -/
theorem levelRuns_replicate_append {l : Level} {xs : List Level} (hxs : ∀ x ∈ xs.head?, l ≠ x) (k : Nat) :
    levelRuns (List.replicate (k + 1) l ++ xs) = (l, k + 1) :: levelRuns xs := by
  induction k with
  | zero =>
    cases xs with
    | nil => rfl
    | cons x xs => exact levelRuns_cons_of_ne (hxs x rfl) xs
  | succ k ih =>
    rw [List.replicate_succ, List.cons_append]
    exact levelRuns_cons_of_eq_cons ih

theorem IsRuns.head?_expandRuns {runs : List Pulse} (h : IsRuns runs) :
    (expandRuns runs).head? = runs.head?.map (·.1) := by
  cases runs with
  | nil => rfl
  | cons p runs =>
    obtain ⟨k, hk⟩ : ∃ k, p.2 = k + 1 := ⟨p.2 - 1, by have := h.pos p (by simp); omega⟩
    rw [expandRuns_cons, hk, List.replicate_succ]
    rfl

theorem IsRuns.tail {p : Pulse} {runs : List Pulse} (h : IsRuns (p :: runs)) : IsRuns runs :=
  ⟨fun q hq => h.pos q (List.mem_cons_of_mem p hq), h.chain.tail⟩

/-- Runs are those of the sequence they stand for. -/
theorem IsRuns.levelRuns_expandRuns {runs : List Pulse} (h : IsRuns runs) : levelRuns (expandRuns runs) = runs := by
  induction runs with
  | nil => rfl
  | cons p runs ih =>
    obtain ⟨k, hk⟩ : ∃ k, p.2 = k + 1 := ⟨p.2 - 1, by have := h.pos p (by simp); omega⟩
    have hnext : ∀ x ∈ (expandRuns runs).head?, p.1 ≠ x := by
      rw [h.tail.head?_expandRuns]
      intro x hx
      obtain ⟨q, hq, rfl⟩ := Option.mem_map.mp hx
      exact (List.isChain_cons.mp h.chain).1 q hq
    rw [expandRuns_cons, hk, levelRuns_replicate_append hnext, ih h.tail, ← hk]

/-- The runs of a sequence stand for it, and are runs. -/
theorem levelRuns_spec (xs : List Level) : expandRuns (levelRuns xs) = xs ∧ IsRuns (levelRuns xs) := by
  induction xs with
  | nil => exact ⟨rfl, by simp [levelRuns], by simp [levelRuns]⟩
  | cons l xs ih =>
    obtain ⟨hexpand, hpos, hchain⟩ := ih
    rw [levelRuns]
    cases hruns : levelRuns xs with
    | nil =>
      rw [hruns] at hexpand
      obtain rfl : xs = [] := hexpand.symm
      exact ⟨rfl, by simp, by simp⟩
    | cons p more =>
      obtain ⟨l', k⟩ := p
      rw [hruns] at hexpand hpos hchain
      by_cases hl : l = l'
      · subst hl
        simp only [if_true]
        refine ⟨by rw [← hexpand]; rfl, ?_, ?_⟩
        · simpa using fun a b hq => hpos (a, b) (List.mem_cons_of_mem _ hq)
        · rw [List.isChain_cons] at hchain ⊢
          exact hchain
      · simp only [if_neg hl]
        refine ⟨by rw [← hexpand]; rfl, ?_, ?_⟩
        · rw [List.forall_mem_cons]
          exact ⟨le_rfl, hpos⟩
        · rw [List.isChain_cons_cons]
          exact ⟨hl, hchain⟩

theorem expandRuns_levelRuns (xs : List Level) : expandRuns (levelRuns xs) = xs := (levelRuns_spec xs).1

theorem isRuns_levelRuns (xs : List Level) : IsRuns (levelRuns xs) := (levelRuns_spec xs).2

/-- The last run may have any length but 0. -/
theorem IsRuns.set_last {init : List Pulse} {l : Level} {k k' : Nat} (h : IsRuns (init ++ [(l, k)])) (hk : 1 ≤ k') :
    IsRuns (init ++ [(l, k')]) := by
  obtain ⟨hpos, hchain⟩ := h
  rw [List.forall_mem_append] at hpos
  obtain ⟨hinit, -⟩ := hpos
  refine ⟨?_, ?_⟩
  · rw [List.forall_mem_append, List.forall_mem_singleton]
    exact ⟨hinit, hk⟩
  · rw [List.isChain_append] at hchain ⊢
    obtain ⟨hchain, -, hlast⟩ := hchain
    exact ⟨hchain, List.isChain_singleton _, fun p hp q hq => by
      obtain rfl : (l, k') = q := by simpa using hq
      exact hlast p hp (l, k) rfl⟩

/-- Runs stay runs when every one of them is made `te` times as long. -/
theorem IsRuns.scale {runs : List Pulse} (h : IsRuns runs) {te : Nat} (hte : 1 ≤ te) :
    IsRuns (runs.map fun p => (p.1, p.2 * te)) := by
  refine ⟨?_, (List.isChain_map _).mpr h.chain⟩
  simp only [List.forall_mem_map]
  exact fun p hp => Nat.mul_pos (h.pos p hp) hte

/-! ### One level more -/

theorem levelRuns_concat_same {xs : List Level} {init : List Pulse} {l : Level} {k : Nat}
    (h : levelRuns xs = init ++ [(l, k)]) : levelRuns (xs ++ [l]) = init ++ [(l, k + 1)] := by
  have hruns : IsRuns (init ++ [(l, k + 1)]) := (h ▸ isRuns_levelRuns xs).set_last (by omega)
  have hxs : expandRuns (init ++ [(l, k + 1)]) = xs ++ [l] := by
    rw [← expandRuns_levelRuns xs, h]
    simp [List.replicate_succ']
  rw [← hxs, hruns.levelRuns_expandRuns]

theorem levelRuns_concat_ne {xs : List Level} {init : List Pulse} {l l' : Level} {k : Nat}
    (h : levelRuns xs = init ++ [(l, k)]) (hl : l ≠ l') :
    levelRuns (xs ++ [l']) = init ++ [(l, k)] ++ [(l', 1)] := by
  obtain ⟨hpos, hchain⟩ := h ▸ isRuns_levelRuns xs
  have hruns : IsRuns (init ++ [(l, k)] ++ [(l', 1)]) := by
    refine ⟨?_, ?_⟩
    · rw [List.forall_mem_append, List.forall_mem_singleton]
      exact ⟨hpos, le_rfl⟩
    · refine List.isChain_append.mpr ⟨hchain, List.isChain_singleton _, ?_⟩
      simpa using hl
  have hxs : expandRuns (init ++ [(l, k)] ++ [(l', 1)]) = xs ++ [l'] := by
    rw [expandRuns_append, ← h, expandRuns_levelRuns]
    rfl
  rw [← hxs, hruns.levelRuns_expandRuns]

/-- One level more makes the last run longer, or begins a new one. -/
theorem levelRuns_concat_cases (xs : List Level) (l : Level) :
    (xs = [] ∧ levelRuns (xs ++ [l]) = [(l, 1)])
    ∨ ∃ init l' k, levelRuns xs = init ++ [(l', k)]
        ∧ ((l = l' ∧ levelRuns (xs ++ [l]) = init ++ [(l, k + 1)])
          ∨ (l ≠ l' ∧ levelRuns (xs ++ [l]) = init ++ [(l', k)] ++ [(l, 1)])) := by
  obtain h | ⟨init, ⟨l', k⟩, h⟩ := (levelRuns xs).eq_nil_or_concat'
  · have hxs : xs = [] := by rw [← expandRuns_levelRuns xs, h, expandRuns_nil]
    exact .inl ⟨hxs, by rw [hxs]; rfl⟩
  · refine .inr ⟨init, l', k, h, ?_⟩
    by_cases hl : l = l'
    · subst hl
      exact .inl ⟨rfl, levelRuns_concat_same h⟩
    · exact .inr ⟨hl, levelRuns_concat_ne h (Ne.symm hl)⟩

/-- Within `bound`: at most `m` runs, each shorter than its level's bound. -/
structure RunsWithin (bound : Level → Nat) (m : Nat) (runs : List Pulse) : Prop where
  count : runs.length ≤ m
  short : ∀ p ∈ runs, p.2 < bound p.1

theorem runsWithin_of_concat {bound : Level → Nat} {m : Nat} {xs : List Level} {l : Level}
    (h : RunsWithin bound m (levelRuns (xs ++ [l]))) : RunsWithin bound m (levelRuns xs) := by
  obtain ⟨rfl, -⟩ | ⟨init, l', k, e, ⟨rfl, e'⟩ | ⟨-, e'⟩⟩ := levelRuns_concat_cases xs l
  · exact ⟨Nat.zero_le _, by simp [levelRuns]⟩
  · obtain ⟨hcount, hshort⟩ := e' ▸ h
    rw [List.forall_mem_append, List.forall_mem_singleton] at hshort
    obtain ⟨hinit, hlast⟩ := hshort
    rw [e]
    refine ⟨by simpa using hcount, ?_⟩
    rw [List.forall_mem_append, List.forall_mem_singleton]
    exact ⟨hinit, (Nat.lt_succ_self k).trans hlast⟩
  · obtain ⟨hcount, hshort⟩ := e' ▸ h
    rw [List.length_append] at hcount
    rw [List.forall_mem_append] at hshort
    exact e ▸ ⟨(Nat.le_add_right _ _).trans hcount, hshort.1⟩

/-- The runs of the beginning of a sequence are no more, and no longer, than those of the whole. -/
theorem runsWithin_of_prefix {bound : Level → Nat} {m : Nat} {xs ys : List Level} (hprefix : xs <+: ys)
    (h : RunsWithin bound m (levelRuns ys)) : RunsWithin bound m (levelRuns xs) := by
  obtain ⟨rest, rfl⟩ := hprefix
  induction rest using List.reverseRecOn with
  | nil => rwa [List.append_nil] at h
  | append_singleton rest l ih =>
    rw [← List.append_assoc] at h
    exact ih (runsWithin_of_concat h)

/-! ### The runs of a frame (R101, R102) -/

/-- The level in front of the stop condition of `n` data bits that follow the level `l`. -/
def levelBeforeStop (l : Level) (d : Nat) : Nat → Level
  | 0 => l
  | _ + 1 => if d.testBit 0 then .idle else .active

/-- A data bit has two different symbols, so the first of them ends the run in progress or is the second and last of
it. -/
theorem levelRuns_data_bit {x y : Level} (hxy : x ≠ y) (l : Level) (xs : List Level) :
    ∃ front, levelRuns (l :: x :: y :: xs) = front ++ levelRuns (y :: xs) ∧ (∀ p ∈ front, p.2 = 1 ∨ p.2 = 2)
      ∧ front.length = if l = x then 1 else 2 := by
  have hrest := levelRuns_cons_of_ne hxy xs
  by_cases hl : l = x
  · subst hl
    exact ⟨[(l, 2)], levelRuns_cons_of_eq_cons hrest, by simp, by simp⟩
  · exact ⟨[(l, 1), (x, 1)], by rw [levelRuns_cons_of_ne hl, hrest]; rfl, by simp, by simp [hl]⟩

theorem levelRuns_dataSymbols (d n : Nat) (l : Level) :
    ∃ body, levelRuns (l :: (dataSymbols d n ++ [.idle, .idle]))
        = body ++ [(.idle, if levelBeforeStop l d n = .idle then 3 else 2)]
      ∧ (∀ p ∈ body, p.2 = 1 ∨ p.2 = 2) ∧ body.length ≤ 2 * n + if l = .active then 1 else 0 := by
  induction n generalizing l with
  | zero =>
    cases l
    · exact ⟨[], rfl, by simp, by simp⟩
    · exact ⟨[(.active, 1)], rfl, by simp, by simp⟩
  | succ n ih =>
    rw [dataSymbols_succ]
    have hxy : (if d.testBit n then Level.active else .idle) ≠ if d.testBit n then .idle else .active := by
      split <;> decide
    obtain ⟨front, e, hfront, hlen⟩ := levelRuns_data_bit hxy l (dataSymbols d n ++ [.idle, .idle])
    obtain ⟨body, e', hbody, hlen'⟩ := ih (if d.testBit n then .idle else .active)
    have hstop : levelBeforeStop (if d.testBit n then .idle else .active) d n = levelBeforeStop l d (n + 1) := by
      cases n <;> rfl
    refine ⟨front ++ body, ?_, List.forall_mem_append.mpr ⟨hfront, hbody⟩, ?_⟩
    · rw [List.cons_append, List.cons_append, e, e', hstop, List.append_assoc]
    · rw [List.length_append, hlen]
      cases hbit : d.testBit n
      · rw [hbit] at hlen'
        cases l <;> simp at hlen' ⊢ <;> omega
      · rw [hbit] at hlen'
        cases l <;> simp at hlen' ⊢ <;> omega

/-- The runs of a frame but the last, in half-bits. -/
def frameBody (d n : Nat) : List Pulse := (levelRuns (encodeFrame d n)).dropLast

/-- The last run of a frame, in half-bits: the stop condition, and the idle half of a last bit 1 (R102). -/
def stopRun (d : Nat) : Nat := if d.testBit 0 then 3 else 2

theorem frameBody_spec (d : Nat) {n : Nat} (hn : 1 ≤ n) :
    levelRuns (encodeFrame d n) = frameBody d n ++ [(.idle, stopRun d)]
      ∧ (∀ p ∈ frameBody d n, p.2 = 1 ∨ p.2 = 2) ∧ 1 ≤ (frameBody d n).length
      ∧ (frameBody d n).length ≤ 2 * n + 1 := by
  obtain ⟨body, e, hbody, hlen⟩ := levelRuns_dataSymbols d n .idle
  have hstop : (if levelBeforeStop .idle d n = .idle then 3 else 2) = stopRun d := by
    obtain ⟨n, rfl⟩ : ∃ m, n = m + 1 := ⟨n - 1, by omega⟩
    rw [levelBeforeStop, stopRun]
    cases d.testBit 0 <;> rfl
  have hruns : levelRuns (encodeFrame d n) = ((.active, 1) :: body) ++ [(.idle, stopRun d)] := by
    rw [← hstop, List.cons_append, ← e]
    exact levelRuns_cons_of_ne (by decide) _
  have hframe : frameBody d n = (.active, 1) :: body := by rw [frameBody, hruns, List.dropLast_concat]
  rw [hframe]
  exact ⟨hruns, List.forall_mem_cons.mpr ⟨.inl rfl, hbody⟩, by simp, by simpa using hlen⟩

/-- The pulses of a frame together are as long as its symbols. -/
theorem pulsesOf_total (symbols : List Level) (te : Nat) :
    ((pulsesOf symbols te).map (·.2)).sum = symbols.length * te := by
  have hsum := expandRuns_length (levelRuns symbols)
  rw [expandRuns_levelRuns] at hsum
  rw [hsum, pulsesOf, List.map_map, ← List.sum_map_mul_right]
  rfl

/-- Settles O33: bit by bit, a data bit's two symbols differ, so no run is longer than two half-bits before the stop
condition. -/
theorem framePulseShape : Obligations.FramePulseShape := by
  unfold Obligations.FramePulseShape
  intro d n hn
  obtain ⟨hruns, hbody, -, hlen⟩ := frameBody_spec d hn
  refine ⟨encodeFrame_length d n, ?_, hbody, ?_, fun te => ?_⟩
  · rw [hruns, List.length_append, List.length_singleton]
    omega
  · rw [hruns, List.getLast?_concat]
    rfl
  · rw [pulsesOf_total, encodeFrame_length]

end Sys2Proof.Machine
end

section
/-! PROOFS. Decoding what the encoder made (40_manchester_codec.md R113): the pulses of a frame under a configuration
that meets the joint constraints, and the half-bits they are read as. -/

namespace Sys2Proof.Machine

/-! ### The symbols in front of the last run -/

/-- The last data bit split off (R100). -/
theorem dataSymbols_succ_last (d n : Nat) :
    dataSymbols d (n + 1) = dataSymbols (d / 2) n
      ++ [if d.testBit 0 then .active else .idle, if d.testBit 0 then .idle else .active] := by
  induction n with
  | zero => exact dataSymbols_succ d 0
  | succ n ih => rw [dataSymbols_succ d (n + 1), ih, dataSymbols_succ (d / 2) n, Nat.testBit_succ]; rfl

theorem expandRuns_frameBody_append (d : Nat) {n : Nat} (hn : 1 ≤ n) :
    expandRuns (frameBody d n) ++ List.replicate (stopRun d) .idle = encodeFrame d n := by
  obtain ⟨hruns, -⟩ := frameBody_spec d hn
  have h := expandRuns_levelRuns (encodeFrame d n)
  rw [hruns] at h
  simpa using h

/-- Behind the last run stands a whole frame, or a frame whose last bit 1 has lost its idle half (R102). -/
theorem expandRuns_frameBody (d n : Nat) :
    expandRuns (frameBody d (n + 1)) = .active :: .idle ::
      if d.testBit 0 then dataSymbols (d / 2) n ++ [.active] else dataSymbols d (n + 1) := by
  have h := expandRuns_frameBody_append d (Nat.succ_pos n)
  cases hbit : d.testBit 0
  · have hsplit : encodeFrame d (n + 1)
        = (.active :: .idle :: dataSymbols d (n + 1)) ++ List.replicate 2 .idle := rfl
    rw [hsplit, stopRun, hbit, if_neg Bool.false_ne_true, List.append_cancel_right_eq] at h
    rw [h, if_neg Bool.false_ne_true]
  · have hsplit : encodeFrame d (n + 1)
        = (.active :: .idle :: (dataSymbols (d / 2) n ++ [.active])) ++ List.replicate 3 .idle := by
      simp [encodeFrame, dataSymbols_succ_last, hbit, List.replicate_succ]
    rw [hsplit, stopRun, hbit, if_pos rfl, List.append_cancel_right_eq] at h
    rw [h, if_pos rfl]

/-- R113 in half-bits: the symbols of a frame up to its last run, followed by the terminating idle, are read as the
frame. -/
theorem decodeHalfBits_frameBody {d n : Nat} (hd : d < 2 ^ n) (hn : 1 ≤ n) (hmax : n ≤ Config.maxBits) :
    decodeHalfBits ((expandRuns (frameBody d n)).map .level) true = .frame d n := by
  obtain ⟨n, rfl⟩ : ∃ m, n = m + 1 := ⟨n - 1, by omega⟩
  rw [expandRuns_frameBody]
  cases hbit : d.testBit 0
  · have h := decodeHalfBits_start_dataSymbols hd hmax true []
    rw [decodeBits_past_end (by simp), List.append_nil] at h
    exact h
  · have hhalf : d / 2 < 2 ^ n := by
      rw [pow_succ] at hd
      omega
    have hodd : 2 * (d / 2) + 1 = d := by
      rw [Nat.testBit_zero, decide_eq_true_iff] at hbit
      omega
    have hfuel : Config.maxBits - n = Config.maxBits - (n + 1) + 1 := by omega
    have h := decodeHalfBits_start_dataSymbols hhalf (by omega) true [.level .active]
    rw [hfuel, decodeBits_bit (b := true) rfl, decodeBits_past_end (by simp), Bool.toNat_true, hodd] at h
    simpa using h

/-! ### The pulses of a frame -/

theorem FrameLen.bits_bounds (len : FrameLen) : 8 ≤ len.bits ∧ len.bits ≤ 24 := by
  cases len <;> decide

/-- The pulses of a frame but the last, in ticks (R101). -/
def bodyPulses (te d n : Nat) : List Pulse := (frameBody d n).map fun p => (p.1, p.2 * te)

theorem pulsesOf_encodeFrame (te d : Nat) {n : Nat} (hn : 1 ≤ n) :
    pulsesOf (encodeFrame d n) te = bodyPulses te d n ++ [(.idle, stopRun d * te)] := by
  obtain ⟨hruns, -⟩ := frameBody_spec d hn
  rw [pulsesOf, hruns, List.map_append]
  rfl

section
variable {c : CfgFile} {d n : Nat}

/-- With TE_TICKS >= 1 and TOL_PCT <= 33 the nominal durations are in their own bands (R103, R104). -/
theorem classify_nominal (hc : RegistersLegal c) :
    classify c c.teTicks.toNat = .one ∧ classify c (2 * c.teTicks.toNat) = .two := by
  obtain ⟨hte, htol, -⟩ := hc
  obtain ⟨-, hbands, -⟩ := toleranceBandsDisjoint c
  obtain ⟨htwo, -⟩ := hbands (by exact_mod_cast hte) (by exact_mod_cast htol) (2 * c.teTicks.toNat)
  rw [classify_eq_one_iff, htwo]
  constructor
  · rw [sub_self, abs_zero, mul_zero]
    positivity
  · push_cast
    rw [sub_self, abs_zero, mul_zero]
    positivity

/-- A pulse of one or two half-bits is read as just those (R107). -/
theorem halfBits_of_nominal (hc : RegistersLegal c) {runs : List Pulse} (hruns : ∀ p ∈ runs, p.2 = 1 ∨ p.2 = 2) :
    halfBits c (runs.map fun p => (p.1, p.2 * c.teTicks.toNat)) = (expandRuns runs).map .level := by
  obtain ⟨hone, htwo⟩ := classify_nominal hc
  induction runs with
  | nil => rfl
  | cons p runs ih =>
    rw [List.forall_mem_cons] at hruns
    obtain ⟨hp, hruns⟩ := hruns
    rw [List.map_cons, ← List.singleton_append, halfBits_append, ih hruns, expandRuns_cons, List.map_append]
    congr 1
    obtain ⟨l, k⟩ := p
    obtain rfl | rfl : k = 1 ∨ k = 2 := hp
    · simp [halfBits, pulseHalfBits, hone]
    · simp [halfBits, pulseHalfBits, htwo]

/-- JC1 and JC2 keep every pulse of a frame but the last below its level's threshold (R206). -/
theorem bodyPulses_lt_burstLimit (hjoint : jointOk c = true) (hn : 1 ≤ n) :
    ∀ p ∈ bodyPulses c.teTicks.toNat d n, p.2 < burstLimit c p.1 := by
  obtain ⟨-, hbody, -⟩ := frameBody_spec d hn
  unfold bodyPulses
  rw [List.forall_mem_map]
  intro p hp
  have hlimit := two_te_lt_burstLimit c hjoint p.1
  obtain hk | hk := hbody p hp <;> simp only [hk] <;> omega

/-- R113: the pulses of a frame are read as the frame, however long the line is idle behind it. -/
theorem decodeBurst_bodyPulses (hc : RegistersLegal c) (hjoint : jointOk c = true) {len : FrameLen}
    (hd : d < 2 ^ len.bits) (k : Nat) :
    decodeBurst c (bodyPulses c.teTicks.toNat d len.bits ++ [(.idle, k)]) = .frame d len.bits := by
  obtain ⟨hmin, hmax⟩ := len.bits_bounds
  have hn : 1 ≤ len.bits := by omega
  obtain ⟨-, hbody, hlen, -⟩ := frameBody_spec d hn
  have hshort := bodyPulses_lt_burstLimit (d := d) hjoint hn
  have hne : bodyPulses c.teTicks.toNat d len.bits ≠ [] := by
    rw [bodyPulses, ne_eq, List.map_eq_nil_iff]
    exact List.ne_nil_of_length_pos hlen
  have hfirst : ∀ p ∈ (bodyPulses c.teTicks.toNat d len.bits).head?, isBusFailure c p = false := fun p hp =>
    isBusFailure_of_lt_burstLimit (hshort p (List.mem_of_mem_head? hp))
  rw [decodeBurst_terminated hne hfirst
    (terminatingIndex_lastIdle (fun p hp => not_longIdle_of_lt_burstLimit (hshort p hp)) k),
    bodyPulses, halfBits_of_nominal hc hbody]
  exact decodeHalfBits_frameBody hd hn (hmax.trans (by decide))

end

/-- Settles O29: both bursts are the frame's pulses but the last, with an idle pulse behind them. -/
theorem frameRoundTrip : Obligations.FrameRoundTrip := by
  unfold Obligations.FrameRoundTrip
  intro c len d hc hjoint hd
  obtain ⟨hmin, -⟩ := len.bits_bounds
  rw [pulsesOf_encodeFrame _ d (by omega), List.dropLast_concat]
  exact ⟨decodeBurst_bodyPulses hc hjoint hd _, decodeBurst_bodyPulses hc hjoint hd _⟩

end Sys2Proof.Machine
end

section
/-! PROOFS. A line held active (42_frame_driver.md R157): a burst of one active run, and the periods of a stuck line. -/

namespace Sys2Proof.Machine

section
variable {l lv : Level} {s : State} {p p' : List CapPulse} {n n' : Reg24}

/-! ### Ticks that end no burst -/

theorem not_burstEnds_of_wait (hcap : s.cap = .wait) (burst : List CapPulse) : ¬ BurstEnds l s burst := by
  rintro ⟨_, _, _, _, _, hrun, -⟩
  exact Cap.noConfusion (hcap.symm.trans hrun)

/-- A run step is determined by what it starts from (R155). -/
theorem RunStep.unique {q : List CapPulse} {m : Reg24} (h : RunStep l p lv n p' n') (h' : RunStep l p lv n q m) :
    q = p' ∧ m = n' := by
  obtain ⟨hl, rfl, rfl⟩ | ⟨hl, rfl, rfl⟩ := h <;> obtain ⟨hl', rfl, rfl⟩ | ⟨hl', rfl, rfl⟩ := h'
  · exact ⟨rfl, rfl⟩
  · exact absurd hl hl'
  · exact absurd hl' hl
  · exact ⟨rfl, rfl⟩

theorem not_burstEnds_of_records (hcap : s.cap = .run p lv n) (hstep : RunStep l p lv n p' n')
    (hlimit : n'.toNat < burstLimit s.cfg l) (burst : List CapPulse) : ¬ BurstEnds l s burst := by
  rintro ⟨q, lv', m, q', m', hrun, hstep', hlimit', -⟩
  obtain ⟨rfl, rfl, rfl⟩ := Cap.run.inj (hcap.symm.trans hrun)
  obtain ⟨-, rfl⟩ := hstep.unique hstep'
  exact absurd hlimit' hlimit.not_ge

/-- The tick's run is one longer while it stays below a 24-bit threshold: no saturation (R7, R155). -/
theorem sat24_succ_toNat {k : Nat} {r : Reg24} (h : k ≤ r.toNat) : (sat24 k).toNat = k := by
  have hmax := r.isLt
  rw [sat24_toNat]
  omega

/-! ### An active tick with nothing pending -/

/-- Nothing is pending, and the line is not driven by a break. -/
structure Unattended (s : State) : Prop where
  pending : s.pending.valid = false
  noBreak : ∀ r, s.txseq ≠ .brk r

theorem beforeSequencer_pending_valid (h : s.pending.valid = false) :
    (beforeSequencer l s).pending.valid = false := by
  by_cases hburst : ∃ burst, BurstEnds l s burst
  · obtain ⟨burst, hburst⟩ := hburst
    rw [beforeSequencer_of_burstEnds hburst, resolve_pending_valid]
  · obtain ⟨c, e, hsame⟩ := beforeSequencer_of_no_burstEnds (not_exists.mp hburst)
    rw [e, echoPhase_of_not_expired (hsame.trans (echoExpired_of_not_pending h))]
    exact h

theorem sequencerPhase_no_break (h : ∀ r, s.txseq ≠ .brk r) (r : Nat) : (sequencerPhase s).txseq ≠ .brk r := by
  obtain ⟨-, e⟩ | ⟨_, _, _, -, ⟨-, e⟩ | ⟨-, e⟩⟩ | ⟨r', hbrk, -⟩ := sequencerPhase_cases s
  · rw [e]; exact h r
  · rw [e]; exact TxSeq.noConfusion
  · rw [e]; exact TxSeq.noConfusion
  · exact absurd hbrk (h r')

/-- No request starts on an active line (R162, R163). -/
theorem mayStart_beforeStart_active (s : State) : mayStart (beforeStart .active s) = false := by
  refine Bool.eq_false_iff.mpr fun hmay => ?_
  obtain ⟨-, -, -, -, hline, -⟩ := (mayStart_iff _).mp hmay
  rw [beforeStart_line] at hline
  exact Level.noConfusion hline

theorem Unattended.tickStep_active (h : Unattended s) : Unattended (tickStep .active s) := by
  rw [tickStep_of_not_mayStart (mayStart_beforeStart_active s), beforeStart_eq_beforeSequencer]
  refine ⟨?_, fun r => ?_⟩
  · rw [clockPhase_pending, sequencerPhase_pending, beforeSequencer_pending_valid h.pending]
  · rw [clockPhase_txseq]
    exact sequencerPhase_no_break (beforeSequencer_no_break h.noBreak .active) r

/-! ### The ticks of a period -/

/-- `j` ticks into a period of a line that is held active. -/
structure StuckFor (j : Nat) (s : State) : Prop extends Unattended s where
  cap : s.cap = if j = 0 then .wait else .run [] .active (BitVec.ofNat 24 j)

theorem StuckFor.run {j : Nat} (h : StuckFor j s) (hj : 0 < j) (hlimit : j < s.cfg.busFailTicks.toNat) :
    s.cap = .run [] .active (BitVec.ofNat 24 j)
      ∧ RunStep .active [] .active (BitVec.ofNat 24 j) [] (BitVec.ofNat 24 (j + 1))
      ∧ (BitVec.ofNat 24 (j + 1)).toNat = j + 1 := by
  have hmax := s.cfg.busFailTicks.isLt
  have hj' : (BitVec.ofNat 24 j).toNat = j := by
    rw [BitVec.toNat_ofNat, Nat.mod_eq_of_lt (by omega)]
  have hsucc : (BitVec.ofNat 24 (j + 1)).toNat = j + 1 := by
    rw [BitVec.toNat_ofNat, Nat.mod_eq_of_lt (by omega)]
  refine ⟨h.cap.trans (if_neg hj.ne'), .inl ⟨rfl, rfl, BitVec.eq_of_toNat_eq ?_⟩, hsucc⟩
  rw [hj', hsucc, sat24_succ_toNat hlimit]

/-- Short of BUSFAIL_TICKS the run is recorded and nothing is reported (R154, R155). -/
theorem StuckFor.tickStep_short {j : Nat} (h : StuckFor j s) (hlimit : j + 1 < s.cfg.busFailTicks.toNat) :
    StuckFor (j + 1) (tickStep .active s) ∧ (tickStep .active s).evq = s.evq := by
  have hquiet := echoExpired_of_not_pending h.pending
  obtain rfl | hj := Nat.eq_zero_or_pos j
  · have hwait : s.cap = .wait := h.cap
    obtain ⟨hevq, -⟩ := tickStep_evq_of_no_event (not_burstEnds_of_wait hwait) hquiet
    refine ⟨⟨h.toUnattended.tickStep_active, ?_⟩, hevq⟩
    rw [tickStep_cap_of_no_break h.noBreak, capturePhase_wait (s := beforeCapture .active s) hwait]
    rfl
  · obtain ⟨hrun, hstep, hnat⟩ := h.run hj (by omega)
    have hshort : (BitVec.ofNat 24 (j + 1)).toNat < burstLimit s.cfg .active := hnat.trans_lt hlimit
    obtain ⟨hevq, -⟩ := tickStep_evq_of_no_event (not_burstEnds_of_records hrun hstep hshort) hquiet
    refine ⟨⟨h.toUnattended.tickStep_active, ?_⟩, hevq⟩
    rw [tickStep_cap_of_no_break h.noBreak, capturePhase_records (s := beforeCapture .active s) hrun hstep hshort]
    rfl

/-- The tick that brings the run to BUSFAIL_TICKS reports it, and the capture unit is armed again (R157). -/
theorem StuckFor.tickStep_last {j : Nat} (h : StuckFor j s) (hj : 0 < j)
    (hlast : j + 1 = s.cfg.busFailTicks.toNat) (hroom : s.evq.length < Config.evqDepth) :
    StuckFor 0 (tickStep .active s) ∧ (tickStep .active s).evq = s.evq ++ [.busFailure false] := by
  obtain ⟨hrun, hstep, hnat⟩ := h.run hj (by omega)
  have hfail : s.cfg.busFailTicks.toNat ≤ (BitVec.ofNat 24 (j + 1)).toNat := (hlast.symm.trans hnat.symm).le
  have hends : BurstEnds .active s [⟨.active, BitVec.ofNat 24 (j + 1)⟩] := ⟨_, _, _, _, _, hrun, hstep, hfail, rfl⟩
  obtain ⟨hevq, -⟩ := tickStep_evq_of_burstEnds hends
  refine ⟨⟨h.toUnattended.tickStep_active, tickStep_cap_of_burstEnds h.noBreak hends⟩, ?_⟩
  rw [hevq, resolve_of_not_pending h.pending, List.map_singleton,
    decodeBurst_busFailure [] (isBusFailure_iff.mpr ⟨rfl, hfail⟩)]
  exact emit_evq_of_room _ hroom

theorem StuckFor.runLevels_short (h : StuckFor 0 s) {j : Nat} (hlimit : j < s.cfg.busFailTicks.toNat) :
    StuckFor j (runLevels (List.replicate j .active) s)
      ∧ (runLevels (List.replicate j .active) s).evq = s.evq
      ∧ (runLevels (List.replicate j .active) s).cfg = s.cfg := by
  induction j with
  | zero => exact ⟨h, rfl, rfl⟩
  | succ j ih =>
    obtain ⟨hstuck, hevq, hcfg⟩ := ih (by omega)
    obtain ⟨hstuck', hevq'⟩ := hstuck.tickStep_short (by rwa [hcfg])
    rw [runLevels_replicate_succ, tickStep_cfg]
    exact ⟨hstuck', hevq'.trans hevq, hcfg⟩

/-- A whole period of a stuck line (R157). -/
theorem StuckFor.runLevels_period (h : StuckFor 0 s) (hlimit : 1 < s.cfg.busFailTicks.toNat)
    (hroom : s.evq.length < Config.evqDepth) :
    StuckFor 0 (runLevels (List.replicate s.cfg.busFailTicks.toNat .active) s)
      ∧ (runLevels (List.replicate s.cfg.busFailTicks.toNat .active) s).evq = s.evq ++ [.busFailure false]
      ∧ (runLevels (List.replicate s.cfg.busFailTicks.toNat .active) s).cfg = s.cfg := by
  obtain ⟨j, hj⟩ : ∃ j, s.cfg.busFailTicks.toNat = j + 1 := ⟨s.cfg.busFailTicks.toNat - 1, by omega⟩
  obtain ⟨hstuck, hevq, hcfg⟩ := h.runLevels_short (j := j) (by omega)
  obtain ⟨hstuck', hevq'⟩ := hstuck.tickStep_last (by omega) (by rw [hcfg, hj]) (by rwa [hevq])
  rw [hj, runLevels_replicate_succ, tickStep_cfg]
  exact ⟨hstuck', by rw [hevq', hevq], hcfg⟩

theorem runLevels_append (a b : List Level) (s : State) : runLevels (a ++ b) s = runLevels b (runLevels a s) :=
  List.foldl_append

/-- Period after period (R157). -/
theorem StuckFor.runLevels_periods (h : StuckFor 0 s) (hlimit : 1 < s.cfg.busFailTicks.toNat) (m : Nat)
    (hroom : s.evq.length + m ≤ Config.evqDepth) :
    StuckFor 0 (runLevels (List.replicate (m * s.cfg.busFailTicks.toNat) .active) s)
      ∧ (runLevels (List.replicate (m * s.cfg.busFailTicks.toNat) .active) s).evq
        = s.evq ++ List.replicate m (.busFailure false) := by
  induction m generalizing s with
  | zero =>
    rw [Nat.zero_mul]
    exact ⟨h, (List.append_nil _).symm⟩
  | succ m ih =>
    obtain ⟨hstuck, hevq, hcfg⟩ := h.runLevels_period hlimit (by omega)
    obtain ⟨hstuck', hevq'⟩ := ih hstuck (by rwa [hcfg]) (by
      rw [hevq, List.length_append, List.length_singleton]
      omega)
    rw [hcfg] at hstuck' hevq'
    rw [Nat.succ_mul, Nat.add_comm, ← List.replicate_append_replicate, runLevels_append]
    refine ⟨hstuck', ?_⟩
    rw [hevq', hevq, List.append_assoc, List.replicate_succ]
    rfl

end

/-- While the capture unit is armed no break is driven (R161, R196). -/
theorem Invariant.noBreak_of_cap {s : State} (h : Invariant s) (hen : s.en = true) (hcap : s.cap ≠ .off) (r : Nat) :
    s.txseq ≠ .brk r := fun hbrk =>
  hcap ((h.armed hen).mpr (by rw [State.breakActive, hbrk]))

/-- Settles O55: an armed capture unit is at the start of a period, and each period ends with the report. -/
theorem stuckLineReportedPeriodically : Obligations.StuckLineReportedPeriodically := by
  unfold Obligations.StuckLineReportedPeriodically
  intro s m h hen hcap hpv hroom
  have hstuck : StuckFor 0 s := ⟨⟨hpv, h.noBreak_of_cap hen (by simp [hcap])⟩, hcap⟩
  obtain ⟨hstuck', hevq⟩ := hstuck.runLevels_periods (one_lt_burstLimit h hen .active) m hroom
  exact ⟨hevq, hstuck'.cap⟩

end Sys2Proof.Machine
end

section
/-! PROOFS. The line a frame makes (40_manchester_codec.md R100 to R102): what is driven tick by tick, and what the
capture unit makes of it (42_frame_driver.md R154 to R158). -/

namespace Sys2Proof.Machine

/-! ### The levels of a frame, tick by tick -/

/-- The line in tick `k` of a frame that is driven from tick 0, and behind it (R151). -/
def frameLevel (te d n k : Nat) : Level := (encodeFrame d n)[k / te]?.getD .idle

/-- The line from the start of a frame to `idle` ticks behind its last active one. -/
def echoLevels (te d n idle : Nat) : List Level := expandRuns (bodyPulses te d n ++ [(.idle, idle)])

theorem flatMap_replicate_getElem? {α : Type} (xs : List α) {te : Nat} (hte : 1 ≤ te) (k : Nat) :
    (xs.flatMap fun x => List.replicate te x)[k]? = xs[k / te]? := by
  induction xs generalizing k with
  | nil => rfl
  | cons x xs ih =>
    rw [List.flatMap_cons]
    by_cases hk : k < te
    · rw [List.getElem?_append_left (by simpa using hk), Nat.div_eq_of_lt hk]
      simp [hk]
    · obtain ⟨j, rfl⟩ : ∃ j, k = j + te := ⟨k - te, by omega⟩
      rw [List.getElem?_append_right (by simp), List.length_replicate, Nat.add_sub_cancel, ih,
        Nat.add_div_right j (by omega)]
      rfl

/-- Runs made `te` times as long stand for each level `te` times. -/
theorem expandRuns_scale (runs : List Pulse) (te : Nat) :
    expandRuns (runs.map fun p => (p.1, p.2 * te)) = (expandRuns runs).flatMap fun l => List.replicate te l := by
  induction runs with
  | nil => rfl
  | cons p runs ih =>
    have hrun : List.replicate (p.2 * te) p.1 = (List.replicate p.2 p.1).flatMap fun l => List.replicate te l := by
      rw [List.flatMap_replicate, List.flatten_replicate_replicate]
    rw [List.map_cons, expandRuns_cons, expandRuns_cons, ih, List.flatMap_append, ← hrun]

section
variable {te d n k idle : Nat}

theorem expandRuns_frameBody_length (d : Nat) (hn : 1 ≤ n) :
    (expandRuns (frameBody d n)).length + stopRun d = 2 * n + 4 := by
  have h := congrArg List.length (expandRuns_frameBody_append d hn)
  rwa [List.length_append, List.length_replicate, encodeFrame_length] at h

/-- Ticks from the start of a frame to its last active tick. -/
theorem expandRuns_bodyPulses_length (te d n : Nat) :
    (expandRuns (bodyPulses te d n)).length = (expandRuns (frameBody d n)).length * te := by
  rw [bodyPulses, expandRuns_scale, List.length_flatMap]
  simp

theorem echoLevels_length : (echoLevels te d n idle).length = (expandRuns (frameBody d n)).length * te + idle := by
  simp [echoLevels, expandRuns_bodyPulses_length]

theorem frameLevel_of_body (hn : 1 ≤ n) (hk : k / te < (expandRuns (frameBody d n)).length) :
    (expandRuns (frameBody d n))[k / te]? = some (frameLevel te d n k) := by
  rw [frameLevel, ← expandRuns_frameBody_append d hn, List.getElem?_append_left hk, List.getElem?_eq_getElem hk]
  rfl

/-- Behind the last active tick of a frame the line is idle (R102). -/
theorem frameLevel_behind_body (hn : 1 ≤ n) (hk : (expandRuns (frameBody d n)).length ≤ k / te) :
    frameLevel te d n k = .idle := by
  rw [frameLevel, ← expandRuns_frameBody_append d hn, List.getElem?_append_right hk, List.getElem?_replicate]
  split <;> rfl

theorem echoLevels_getElem? (hte : 1 ≤ te) (hn : 1 ≤ n) (hk : k < (echoLevels te d n idle).length) :
    (echoLevels te d n idle)[k]? = some (frameLevel te d n k) := by
  have hlen := expandRuns_bodyPulses_length te d n
  rw [echoLevels_length] at hk
  rw [echoLevels, expandRuns_append]
  by_cases hbody : k < (expandRuns (bodyPulses te d n)).length
  · have hdiv : k / te < (expandRuns (frameBody d n)).length := by
      rwa [Nat.div_lt_iff_lt_mul hte, ← hlen]
    rw [List.getElem?_append_left hbody, bodyPulses, expandRuns_scale, flatMap_replicate_getElem? _ hte,
      frameLevel_of_body hn hdiv]
  · have hdiv : (expandRuns (frameBody d n)).length ≤ k / te := by
      rwa [Nat.le_div_iff_mul_le hte, ← hlen, ← not_lt]
    rw [List.getElem?_append_right (not_lt.mp hbody), frameLevel_behind_body hn hdiv]
    have hrest : k - (expandRuns (bodyPulses te d n)).length < idle := by omega
    rw [expandRuns_cons, expandRuns_nil, List.append_nil, List.getElem?_replicate, if_pos hrest]

/-- The runs of the line are the frame's pulses but the last, and the idle ticks behind them (R101, R102). -/
theorem levelRuns_echoLevels (hte : 1 ≤ te) (hn : 1 ≤ n) (hidle : 1 ≤ idle) :
    levelRuns (echoLevels te d n idle) = bodyPulses te d n ++ [(.idle, idle)] := by
  have hpulses : IsRuns (bodyPulses te d n ++ [(.idle, stopRun d * te)]) := by
    rw [← pulsesOf_encodeFrame te d hn]
    exact (isRuns_levelRuns _).scale hte
  exact (hpulses.set_last hidle).levelRuns_expandRuns

theorem bodyPulses_length_le (hn : 1 ≤ n) : (bodyPulses te d n).length ≤ 2 * n + 1 := by
  obtain ⟨-, -, -, hlen⟩ := frameBody_spec d hn
  rwa [bodyPulses, List.length_map]

end

/-- Short of LONG_IDLE_TICKS idle ticks, no run of a frame's line reaches its threshold, and the burst buffer holds them
all (R156 to R158, R206). -/
theorem runsWithin_echoLevels_take {c : CfgFile} (hc : RegistersLegal c) (hjoint : jointOk c = true) {d n : Nat}
    (hn : 1 ≤ n) (hmax : n ≤ 24) {k : Nat}
    (hk : k < (echoLevels c.teTicks.toNat d n c.longIdleTicks.toNat).length) :
    RunsWithin (burstLimit c) Config.capMaxPulses
      (levelRuns ((echoLevels c.teTicks.toNat d n c.longIdleTicks.toNat).take k)) := by
  obtain ⟨hte, -⟩ := hc
  have hlimit : 2 * c.teTicks.toNat < c.longIdleTicks.toNat := two_te_lt_burstLimit c hjoint .idle
  obtain ⟨idle, hlong⟩ : ∃ idle, c.longIdleTicks.toNat = idle + 1 := ⟨c.longIdleTicks.toNat - 1, by omega⟩
  have hidle : 1 ≤ idle := by omega
  have hsplit : echoLevels c.teTicks.toNat d n (idle + 1) = echoLevels c.teTicks.toNat d n idle ++ [.idle] := by
    simp [echoLevels, List.replicate_succ']
  rw [hlong, hsplit, List.length_append, List.length_singleton] at hk
  rw [hlong, hsplit, List.take_append_of_le_length (by omega)]
  refine runsWithin_of_prefix (List.take_prefix _ _) ?_
  rw [levelRuns_echoLevels hte hn hidle]
  refine ⟨?_, ?_⟩
  · have hlen := bodyPulses_length_le (te := c.teTicks.toNat) (d := d) hn
    rw [List.length_append, List.length_singleton]
    simp only [Config.capMaxPulses]
    omega
  · rw [List.forall_mem_append, List.forall_mem_singleton]
    exact ⟨bodyPulses_lt_burstLimit hjoint hn, by simp only [burstLimit]; omega⟩

/-! ### What the capture unit makes of the levels it is shown -/

/-- CAP holds the runs of the levels sensed since it was armed, the last of them as the run in progress (R154, R155). -/
def Records (cap : Cap) (sensed : List Level) : Prop :=
  (sensed = [] ∧ cap = .wait)
  ∨ ∃ p l n, cap = .run p l n ∧ levelRuns sensed = p.map CapPulse.pulse ++ [(l, n.toNat)]

section
variable {s : State} {sensed : List Level}

/-- One level more, below the limits of the buffer and of 24 bits, makes of the recorded runs those of the longer
sequence (R155, R158). -/
theorem runStep_of_levelRuns {p : List CapPulse} {lv : Level} {n : Reg24}
    (hruns : levelRuns sensed = p.map CapPulse.pulse ++ [(lv, n.toNat)])
    (hwithin : RunsWithin (burstLimit s.cfg) Config.capMaxPulses (levelRuns sensed)) (l : Level) :
    ∃ p' n', RunStep l p lv n p' n' ∧ levelRuns (sensed ++ [l]) = p'.map CapPulse.pulse ++ [(l, n'.toNat)] := by
  obtain ⟨hcount, hshort⟩ := hruns ▸ hwithin
  by_cases hl : l = lv
  · subst hl
    have hlimit : n.toNat < burstLimit s.cfg l := hshort (l, n.toNat) (by simp)
    have hnat : (sat24 (n.toNat + 1)).toNat = n.toNat + 1 := by
      cases l
      · exact sat24_succ_toNat (r := s.cfg.longIdleTicks) hlimit
      · exact sat24_succ_toNat (r := s.cfg.busFailTicks) hlimit
    exact ⟨p, _, .inl ⟨rfl, rfl, rfl⟩, by rw [hnat]; exact levelRuns_concat_same hruns⟩
  · have hroom : p.length < Config.capMaxPulses := by simpa using hcount
    refine ⟨p ++ [⟨lv, n⟩], 1, .inr ⟨hl, (if_pos hroom).symm, rfl⟩, ?_⟩
    rw [levelRuns_concat_ne hruns (Ne.symm hl), List.map_append]
    rfl

/-- A level that takes no run to its threshold is recorded, and ends no burst. The first one is active (R154). -/
theorem Records.next (h : Records s.cap sensed) {l : Level} (hfirst : sensed = [] → l = .active)
    (hwithin : RunsWithin (burstLimit s.cfg) Config.capMaxPulses (levelRuns (sensed ++ [l]))) :
    (∀ burst, ¬ BurstEnds l s burst) ∧ Records (capturePhase l (beforeCapture l s)).cap (sensed ++ [l]) := by
  obtain ⟨rfl, hwait⟩ | ⟨p, lv, n, hcap, hruns⟩ := h
  · obtain rfl := hfirst rfl
    refine ⟨not_burstEnds_of_wait hwait, .inr ⟨[], .active, 1, ?_, rfl⟩⟩
    rw [capturePhase_wait (s := beforeCapture .active s) hwait]
    rfl
  · obtain ⟨p', n', hstep, hruns'⟩ := runStep_of_levelRuns hruns (runsWithin_of_concat hwithin) l
    have hlimit : n'.toNat < burstLimit s.cfg l := hwithin.short (l, n'.toNat) (by simp [hruns'])
    refine ⟨not_burstEnds_of_records hcap hstep hlimit, .inr ⟨p', l, n', ?_, hruns'⟩⟩
    rw [capturePhase_records (s := beforeCapture l s) hcap hstep hlimit]

/-- The level that takes the run in progress to its threshold ends the burst, whose pulses are the runs sensed (R156,
R157). -/
theorem Records.ends (h : Records s.cap sensed) (hne : sensed ≠ []) {l : Level} {init : List Pulse} {k : Nat}
    (hwithin : RunsWithin (burstLimit s.cfg) Config.capMaxPulses (levelRuns sensed))
    (hruns' : levelRuns (sensed ++ [l]) = init ++ [(l, k)]) (hk : burstLimit s.cfg l ≤ k)
    (hroom : init.length < Config.capMaxPulses) :
    ∃ burst, BurstEnds l s burst ∧ burst.map CapPulse.pulse = init ++ [(l, k)] := by
  obtain ⟨rfl, -⟩ | ⟨p, lv, n, hcap, hruns⟩ := h
  · exact absurd rfl hne
  · obtain ⟨p', n', hstep, e⟩ := runStep_of_levelRuns hruns hwithin l
    obtain ⟨rfl, hlast⟩ := List.append_inj' (hruns'.symm.trans e) rfl
    obtain rfl : k = n'.toNat := by simpa using hlast
    refine ⟨push80 p' ⟨l, n'⟩, ⟨p, lv, n, p', n', hcap, hstep, hk, rfl⟩, ?_⟩
    rw [push80, if_pos (by simpa using hroom), List.map_append]
    rfl

end

end Sys2Proof.Machine
end

section
/-! PROOFS. An undisturbed transmission (42_frame_driver.md R167): the block alone on the bus, tick by tick from the start
of a frame to its TX_COMPLETED, and on to the end of the driven frame. -/

namespace Sys2Proof.Machine

/-! ### A block alone on the bus -/

@[simp] theorem tickStep_env (l : Level) (s : State) : (tickStep l s).env = s.env := by simp [tickStep]

/-- The level the block alone puts on the line (R152). -/
def ownLevel (s : State) : Level := Level.ofBit (driveOut s)

/-- The bus shows what is driven in the same tick (R152, log 5). -/
structure NoDelay (s : State) : Prop where
  loopDelay : s.env.loopDelay = 0
  drvHist : s.env.drvHist = []

section
variable {s : State}

theorem NoDelay.tickInBus (h : NoDelay s) : tickInBus false s = tickStep (ownLevel s) s := by
  have hlevel : busLevel false s = ownLevel s := by
    rw [busLevel, delayedDrive, h.loopDelay, h.drvHist, Bool.or_false]
    rfl
  have hhist : (driveOut s :: s.env.drvHist).take s.env.loopDelay = s.env.drvHist := by
    rw [h.loopDelay, h.drvHist, List.take_zero]
  have henv : envTick (driveOut s) s = s := by rw [envTick, recordDrive, hhist]
  rw [Machine.tickInBus, hlevel, henv]

theorem runAlone_succ (k : Nat) (s : State) : runAlone (k + 1) s = tickInBus false (runAlone k s) := by
  induction k generalizing s with
  | zero => rfl
  | succ k ih => exact ih (Machine.tickInBus false s)

theorem NoDelay.runAlone_succ (h : NoDelay s) (k : Nat) :
    NoDelay (runAlone k s) ∧ runAlone (k + 1) s = tickStep (ownLevel (runAlone k s)) (runAlone k s) := by
  have hdelay : NoDelay (runAlone k s) := by
    induction k with
    | zero => exact h
    | succ k ih =>
      rw [Machine.runAlone_succ, ih.tickInBus]
      exact ⟨by rw [tickStep_env, ih.loopDelay], by rw [tickStep_env, ih.drvHist]⟩
  exact ⟨hdelay, by rw [Machine.runAlone_succ, hdelay.tickInBus]⟩

/-! ### The sequencer over a frame -/

/-- TXSEQ after `k` ticks of the frame `(d, len)` (R160). -/
def seqAt (te : Nat) (d : Reg24) (len : FrameLen) (k : Nat) : TxSeq :=
  if k < (2 * len.bits + 4) * te then .send d len k else .idle

variable {te k : Nat} {d : Reg24} {len : FrameLen}

theorem seqAt_ne_brk (r : Nat) : seqAt te d len k ≠ .brk r := by
  unfold seqAt
  split <;> exact TxSeq.noConfusion

theorem sequencerPhase_seqAt (hte : s.cfg.teTicks.toNat = te) (h : s.txseq = seqAt te d len k) :
    (sequencerPhase s).txseq = seqAt te d len (k + 1) := by
  unfold seqAt at h ⊢
  by_cases hk : k < (2 * len.bits + 4) * te
  · rw [if_pos hk] at h
    by_cases hlast : k + 1 = (2 * len.bits + 4) * te
    · rw [sequencerPhase_of_send_last h (by rwa [hte]), if_neg (by omega)]
    · rw [sequencerPhase_of_send h (by rwa [hte]), if_pos (by omega)]
  · rw [if_neg hk] at h
    rw [sequencerPhase_of_idle h, if_neg (by omega), h]

/-- The block drives the frame's levels, and idle behind its end (R151). -/
theorem ownLevel_seqAt (hte : s.cfg.teTicks.toNat = te) (hpos : 1 ≤ te) (h : s.txseq = seqAt te d len k) :
    ownLevel s = frameLevel te d.toNat len.bits k := by
  unfold seqAt at h
  unfold ownLevel frameLevel
  by_cases hk : k < (2 * len.bits + 4) * te
  · rw [if_pos hk] at h
    rw [driveOut, h]
    simp only [halfBitAt, hte]
    cases (encodeFrame d.toNat len.bits)[k / te]? with
    | none => rfl
    | some l => cases l <;> rfl
  · rw [if_neg hk] at h
    have hend : (encodeFrame d.toNat len.bits)[k / te]? = none := by
      rw [List.getElem?_eq_none_iff, encodeFrame_length, Nat.le_div_iff_mul_le hpos]
      exact not_lt.mp hk
    rw [driveOut, h, hend]
    rfl

end

/-! ### A tick of the sequencer that starts no request -/

section
variable {l : Level} {s : State}

theorem tickStep_txseq_of_not_mayStart (h : mayStart (beforeStart l s) = false) :
    (tickStep l s).txseq = (sequencerPhase (beforeSequencer l s)).txseq := by
  rw [tickStep_of_not_mayStart h, clockPhase_txseq, beforeStart_eq_beforeSequencer]

theorem not_mayStart_of_pending (h : (beforeSequencer l s).pending.valid = true) :
    mayStart (beforeStart l s) = false := by
  refine Bool.eq_false_iff.mpr fun hmay => ?_
  obtain ⟨-, -, hpv, -⟩ := (mayStart_iff _).mp hmay
  rw [beforeStart_eq_beforeSequencer, sequencerPhase_pending, h] at hpv
  exact Bool.noConfusion hpv

theorem not_mayStart_of_txseq (h : (sequencerPhase (beforeSequencer l s)).txseq ≠ .idle) :
    mayStart (beforeStart l s) = false := by
  refine Bool.eq_false_iff.mpr fun hmay => ?_
  obtain ⟨-, hseq, -⟩ := (mayStart_iff _).mp hmay
  exact h hseq

/-- A tick with an outcome pending that ends no burst and does not run out the echo timer leaves the sequencer to phase
6 alone (R150, R163). -/
theorem tickStep_seqAt_of_pending {te k : Nat} {d : Reg24} {len : FrameLen} (hpv : s.pending.valid = true)
    (hnone : ∀ burst, ¬ BurstEnds l s burst) (hx : echoExpired s = false) (hte : s.cfg.teTicks.toNat = te)
    (hseq : s.txseq = seqAt te d len k) : (tickStep l s).txseq = seqAt te d len (k + 1) := by
  obtain ⟨c, e, hsame⟩ := beforeSequencer_of_no_burstEnds hnone
  rw [echoPhase_of_not_expired (hsame.trans hx)] at e
  rw [tickStep_txseq_of_not_mayStart (not_mayStart_of_pending (by rw [e]; exact hpv)), e]
  exact sequencerPhase_seqAt hte hseq

end

/-! ### From the start of a frame to its outcome -/

/-- A frame is about to be driven, its descriptor pending, under a configuration the block may be enabled with. -/
structure AtFrameStart (s : State) : Prop where
  registers : RegistersLegal s.cfg
  joint : jointOk s.cfg = true
  valid : s.pending.valid = true
  fits : s.pending.data.toNat < 2 ^ s.pending.len.bits

/-- The line of the frame that `s` starts, up to the tick that ends its echo. -/
def ownEcho (s : State) : List Level :=
  echoLevels s.cfg.teTicks.toNat s.pending.data.toNat s.pending.len.bits s.cfg.longIdleTicks.toNat

/-- `k` ticks into the transmission that `s` starts, its outcome still pending. -/
structure Underway (s : State) (k : Nat) (t : State) : Prop where
  cfg : t.cfg = s.cfg
  pending : t.pending = s.pending
  evq : t.evq = s.evq
  elapsed : (t.now - t.pending.start).toNat = k
  txseq : t.txseq = seqAt s.cfg.teTicks.toNat s.pending.data s.pending.len k
  records : Records t.cap ((ownEcho s).take k)

section
variable {s t : State} {k : Nat}

theorem ownEcho_length (s : State) :
    (ownEcho s).length = (if s.pending.data.getLsbD 0 then (2 * s.pending.len.bits + 1) * s.cfg.teTicks.toNat
      else (2 * s.pending.len.bits + 2) * s.cfg.teTicks.toNat) + s.cfg.longIdleTicks.toNat := by
  obtain ⟨hmin, -⟩ := s.pending.len.bits_bounds
  have hlen := expandRuns_frameBody_length s.pending.data.toNat (n := s.pending.len.bits) (by omega)
  rw [stopRun, BitVec.testBit_toNat] at hlen
  rw [ownEcho, echoLevels_length]
  split at hlen
  · rw [if_pos (by assumption)]
    congr 2
    omega
  · rw [if_neg (by assumption)]
    congr 2
    omega

/-- JC5 leaves the echo timer running until the echo has ended (R206, R242). -/
theorem AtFrameStart.ownEcho_length_lt (h : AtFrameStart s) :
    (ownEcho s).length < s.cfg.echoTimeoutTicks.toNat := by
  obtain ⟨-, -, -, -, hjc5⟩ := (jointOk_iff _).mp h.joint
  obtain ⟨-, hmax⟩ := s.pending.len.bits_bounds
  have hle : ∀ m ≤ 52, m * s.cfg.teTicks.toNat ≤ 52 * s.cfg.teTicks.toNat := fun m hm =>
    Nat.mul_le_mul_right _ hm
  have hodd := hle (2 * s.pending.len.bits + 1) (by omega)
  have heven := hle (2 * s.pending.len.bits + 2) (by omega)
  rw [ownEcho_length]
  split <;> omega

theorem AtFrameStart.ownEcho_getElem? (h : AtFrameStart s) (hk : k < (ownEcho s).length) :
    (ownEcho s)[k]? = some (frameLevel s.cfg.teTicks.toNat s.pending.data.toNat s.pending.len.bits k) := by
  obtain ⟨hte, -⟩ := h.registers
  obtain ⟨hmin, -⟩ := s.pending.len.bits_bounds
  exact echoLevels_getElem? hte (by omega) hk

theorem Underway.valid (ht : Underway s k t) (h : AtFrameStart s) : t.pending.valid = true := ht.pending ▸ h.valid

theorem Underway.noBreak (ht : Underway s k t) (r : Nat) : t.txseq ≠ .brk r := ht.txseq ▸ seqAt_ne_brk r

/-- The block senses its own frame (R152). -/
theorem Underway.take_succ (ht : Underway s k t) (h : AtFrameStart s) (hk : k < (ownEcho s).length) :
    (ownEcho s).take (k + 1) = (ownEcho s).take k ++ [ownLevel t] := by
  obtain ⟨hte, -⟩ := h.registers
  rw [List.take_add_one, h.ownEcho_getElem? hk, ownLevel_seqAt (by rw [ht.cfg]) hte ht.txseq]
  rfl

theorem Underway.not_expired (ht : Underway s k t) (h : AtFrameStart s) (hk : k < (ownEcho s).length) :
    echoExpired t = false := by
  have hlt := hk.trans h.ownEcho_length_lt
  rw [echoExpired, ht.elapsed, ht.cfg, decide_eq_false hlt.not_ge, Bool.and_false]

/-- The first tick of a frame is active (R100). -/
theorem Underway.ownLevel_first (ht : Underway s k t) (h : AtFrameStart s) (hk : k < (ownEcho s).length)
    (hfirst : (ownEcho s).take k = []) : ownLevel t = .active := by
  obtain ⟨hte, -⟩ := h.registers
  obtain rfl : k = 0 := by
    obtain hk0 | hnil := List.take_eq_nil_iff.mp hfirst
    · exact hk0
    · rw [hnil] at hk
      exact absurd hk (Nat.not_lt_zero k)
  rw [ownLevel_seqAt (by rw [ht.cfg]) hte ht.txseq, frameLevel, Nat.zero_div]
  rfl

/-- The tick that ends the echo is idle (R156). -/
theorem Underway.ownLevel_last (ht : Underway s k t) (h : AtFrameStart s) (hk : k + 1 = (ownEcho s).length) :
    ownLevel t = .idle := by
  obtain ⟨hte, -, hlong, -⟩ := h.registers
  have hidle : (ownEcho s).getLast? = some .idle := by
    rw [ownEcho, echoLevels, expandRuns_append, expandRuns_cons, expandRuns_nil, List.append_nil,
      List.getLast?_append_of_ne_nil _ (by simp; omega), List.getLast?_replicate, if_neg (by omega)]
  rw [List.getLast?_eq_getElem?, ← hk, Nat.add_sub_cancel, h.ownEcho_getElem? (by omega), Option.some_inj] at hidle
  rw [ownLevel_seqAt (by rw [ht.cfg]) hte ht.txseq, hidle]

/-- A tick that does not end the echo brings the transmission one tick on. -/
theorem Underway.next (ht : Underway s k t) (h : AtFrameStart s) (hk : k + 1 < (ownEcho s).length) :
    Underway s (k + 1) (tickStep (ownLevel t) t) := by
  have hpv := ht.valid h
  have hx := ht.not_expired h (by omega)
  have htake := ht.take_succ h (by omega)
  obtain ⟨hmin, hmax⟩ := s.pending.len.bits_bounds
  have hwithin : RunsWithin (burstLimit t.cfg) Config.capMaxPulses
      (levelRuns ((ownEcho s).take k ++ [ownLevel t])) := by
    rw [← htake, ht.cfg]
    exact runsWithin_echoLevels_take h.registers h.joint (by omega) hmax hk
  obtain ⟨hnone, hrecords⟩ := ht.records.next (ht.ownLevel_first h (by omega)) hwithin
  obtain ⟨hevq, -, hpending⟩ := tickStep_of_no_timeout hnone hx hpv
  obtain ⟨helapsed, -⟩ := elapsed_succ hpv hx
  exact
    { cfg := (tickStep_cfg _ t).trans ht.cfg
      pending := hpending.trans ht.pending
      evq := hevq.trans ht.evq
      elapsed := by rw [tickStep_now, hpending, helapsed, ht.elapsed]
      txseq := tickStep_seqAt_of_pending hpv hnone hx (by rw [ht.cfg]) ht.txseq
      records := by rwa [tickStep_cap_of_no_break ht.noBreak, htake] }

/-- The tick that ends the echo ends a burst, which is the frame (R113, R156). -/
theorem Underway.burstEnds (ht : Underway s k t) (h : AtFrameStart s) (hk : k + 1 = (ownEcho s).length) :
    ∃ burst, BurstEnds (ownLevel t) t burst
      ∧ decodeBurst t.cfg (burst.map CapPulse.pulse) = .frame t.pending.data.toNat t.pending.len.bits := by
  obtain ⟨hte, -, hlong, -⟩ := h.registers
  obtain ⟨hmin, hmax⟩ := s.pending.len.bits_bounds
  have hn : 1 ≤ s.pending.len.bits := by omega
  have hruns := levelRuns_echoLevels (d := s.pending.data.toNat) hte hn hlong
  have hlast := ht.ownLevel_last h hk
  have hwhole : (ownEcho s).take k ++ [.idle] = ownEcho s := by
    rw [← hlast, ← ht.take_succ h (by omega), hk, List.take_length]
  have hwithin : RunsWithin (burstLimit t.cfg) Config.capMaxPulses (levelRuns ((ownEcho s).take k)) := by
    rw [ht.cfg]
    exact runsWithin_echoLevels_take h.registers h.joint hn hmax (by rw [← ownEcho]; omega)
  have hstarted : (ownEcho s).take k ≠ [] := fun hnil =>
    Level.noConfusion (hlast.symm.trans (ht.ownLevel_first h (by omega) hnil))
  have hroom : (bodyPulses s.cfg.teTicks.toNat s.pending.data.toNat s.pending.len.bits).length
      < Config.capMaxPulses := by
    have hlen := bodyPulses_length_le (te := s.cfg.teTicks.toNat) (d := s.pending.data.toNat) hn
    simp only [Config.capMaxPulses]
    omega
  obtain ⟨burst, hends, hpulses⟩ := ht.records.ends hstarted (l := .idle) hwithin
    (by rw [hwhole]; exact hruns) (by rw [ht.cfg]; exact le_rfl) hroom
  refine ⟨burst, by rwa [hlast], ?_⟩
  rw [hpulses, ht.cfg, ht.pending]
  exact decodeBurst_bodyPulses h.registers h.joint h.fits _

/-! ### The outcome, and the rest of the driven frame -/

/-- `k` ticks after a frame was started, its outcome reported, and the frame still driven. -/
structure StillDriven (s : State) (k : Nat) (t : State) : Prop where
  cfg : t.cfg = s.cfg
  closed : t.pending.valid = false
  txseq : t.txseq = .send s.pending.data s.pending.len k
  cap : t.cap = .wait

/-- The tick that ends the echo reports TX_COMPLETED (R134, R167). -/
theorem Underway.completes (ht : Underway s k t) (h : AtFrameStart s) (hk : k + 1 = (ownEcho s).length)
    (hroom : s.evq.length < Config.evqDepth) :
    (tickStep (ownLevel t) t).evq = s.evq ++ [.txCompleted s.pending.len s.pending.data]
      ∧ (tickStep (ownLevel t) t).lastKind = s.pending.len.kind
      ∧ (k + 1 < (2 * s.pending.len.bits + 4) * s.cfg.teTicks.toNat →
        StillDriven s (k + 1) (tickStep (ownLevel t) t)) := by
  obtain ⟨burst, hends, hdecode⟩ := ht.burstEnds h hk
  have hpv := ht.valid h
  have hresolve : ∀ u : State, u.pending = t.pending → u.cfg = t.cfg → resolve burst u
      = closePending (setKind t.pending.len.kind (emit (.txCompleted t.pending.len t.pending.data) u)) := by
    intro u hpending hcfg
    rw [resolve_of_pending (hpending ▸ hpv), hcfg, hdecode, ← hpending]
    exact resolveEcho_self u
  obtain ⟨hevq, -⟩ := tickStep_evq_of_burstEnds hends
  rw [hresolve t rfl rfl] at hevq
  have hkind := tickStep_lastKind_of_burstEnds ht.noBreak hends
  rw [hresolve t rfl rfl] at hkind
  refine ⟨?_, ?_, fun hdriven => ?_⟩
  · rw [hevq, closePending_evq, setKind_evq, emit_evq_of_room _ (by rwa [ht.evq]), ht.evq, ht.pending]
  · rw [hkind, closePending_lastKind, setKind_lastKind, ht.pending]
  · have hbefore := beforeSequencer_of_burstEnds hends
    have hcfg : (beforeSequencer (ownLevel t) t).cfg = s.cfg := by
      rw [hbefore, resolve_cfg]
      exact ht.cfg
    have hkept : (beforeSequencer (ownLevel t) t).txseq
        = seqAt s.cfg.teTicks.toNat s.pending.data s.pending.len k := by
      rw [hbefore, hresolve { beforeCapture (ownLevel t) t with cap := .wait } rfl rfl]
      exact (emit_txseq _ _).trans ht.txseq
    have hseq := sequencerPhase_seqAt (by rw [hcfg]) hkept
    rw [seqAt, if_pos hdriven] at hseq
    have hmay := not_mayStart_of_txseq (l := ownLevel t) (s := t) (by rw [hseq]; exact TxSeq.noConfusion)
    refine ⟨(tickStep_cfg _ t).trans ht.cfg, ?_, ?_, tickStep_cap_of_burstEnds ht.noBreak hends⟩
    · rw [tickStep_of_not_mayStart hmay, beforeStart_eq_beforeSequencer, clockPhase_pending,
        sequencerPhase_pending, hbefore, resolve_pending_valid]
    · rw [tickStep_txseq_of_not_mayStart hmay, hseq]

/-- Behind the end of the echo the frame is driven on, idle, and nothing is captured or started (R160, R163). -/
theorem StillDriven.next (ht : StillDriven s k t) (h : AtFrameStart s) (hecho : (ownEcho s).length ≤ k)
    (hk : k + 1 < (2 * s.pending.len.bits + 4) * s.cfg.teTicks.toNat) :
    StillDriven s (k + 1) (tickStep (ownLevel t) t) := by
  obtain ⟨hte, -⟩ := h.registers
  obtain ⟨hmin, -⟩ := s.pending.len.bits_bounds
  have hseqAt : t.txseq = seqAt s.cfg.teTicks.toNat s.pending.data s.pending.len k := by
    rw [ht.txseq, seqAt, if_pos (by omega)]
  have hlevel : ownLevel t = .idle := by
    rw [ownLevel_seqAt (by rw [ht.cfg]) hte hseqAt]
    refine frameLevel_behind_body (by omega) ?_
    rw [ownEcho, echoLevels_length] at hecho
    rw [Nat.le_div_iff_mul_le hte]
    omega
  have hbefore : beforeSequencer .idle t = beforeCapture .idle t := by
    rw [beforeSequencer, capturePhase_wait (s := beforeCapture .idle t) ht.cap, if_neg (by decide)]
    exact echoPhase_of_not_expired (echoExpired_of_not_pending ht.closed)
  have hseq : (sequencerPhase (beforeCapture .idle t)).txseq = .send s.pending.data s.pending.len (k + 1) := by
    rw [sequencerPhase_of_send (s := beforeCapture .idle t) ht.txseq]
    exact hk.ne.trans_eq (by rw [← ht.cfg]; rfl)
  have hmay := not_mayStart_of_txseq (l := .idle) (s := t) (by rw [hbefore, hseq]; exact TxSeq.noConfusion)
  have hbreak : ∀ r, t.txseq ≠ .brk r := fun r => ht.txseq ▸ TxSeq.noConfusion
  rw [hlevel]
  refine ⟨(tickStep_cfg _ t).trans ht.cfg, ?_, ?_, ?_⟩
  · rw [tickStep_of_not_mayStart hmay, beforeStart_eq_beforeSequencer, clockPhase_pending, sequencerPhase_pending,
      hbefore]
    exact ht.closed
  · rw [tickStep_txseq_of_not_mayStart hmay, hbefore, hseq]
  · rw [tickStep_cap_of_no_break hbreak, capturePhase_wait (s := beforeCapture .idle t) ht.cap, if_neg (by decide)]
    exact ht.cap

/-! ### The run of the block alone on the bus -/

theorem Underway.runAlone (h0 : Underway s 0 s) (h : AtFrameStart s) (hdelay : NoDelay s)
    (hk : k < (ownEcho s).length) : Underway s k (runAlone k s) := by
  induction k with
  | zero => exact h0
  | succ k ih =>
    obtain ⟨-, e⟩ := hdelay.runAlone_succ k
    rw [e]
    exact (ih (by omega)).next h hk

/-- The transmission up to the tick that ends its echo, and that tick. -/
theorem Underway.runAlone_completes (h0 : Underway s 0 s) (h : AtFrameStart s) (hdelay : NoDelay s)
    (hroom : s.evq.length < Config.evqDepth) :
    (Machine.runAlone (ownEcho s).length s).evq = s.evq ++ [.txCompleted s.pending.len s.pending.data]
      ∧ (Machine.runAlone (ownEcho s).length s).lastKind = s.pending.len.kind
      ∧ ((ownEcho s).length < (2 * s.pending.len.bits + 4) * s.cfg.teTicks.toNat →
        StillDriven s (ownEcho s).length (Machine.runAlone (ownEcho s).length s)) := by
  obtain ⟨k, hk⟩ : ∃ k, (ownEcho s).length = k + 1 := by
    obtain ⟨-, -, hlong, -⟩ := h.registers
    rw [ownEcho_length]
    exact Nat.exists_eq_add_one_of_ne_zero (by omega)
  obtain ⟨-, e⟩ := hdelay.runAlone_succ k
  rw [hk, e]
  exact (h0.runAlone h hdelay (by omega)).completes h hk.symm hroom

/-- The frame is driven to its end, whether its outcome is reported before that or behind it (R160, R167). -/
theorem Underway.runAlone_txseq (h0 : Underway s 0 s) (h : AtFrameStart s) (hdelay : NoDelay s)
    (hroom : s.evq.length < Config.evqDepth) (hk : k < (2 * s.pending.len.bits + 4) * s.cfg.teTicks.toNat) :
    (Machine.runAlone k s).txseq = .send s.pending.data s.pending.len k ∧ (Machine.runAlone k s).cfg = s.cfg := by
  by_cases hecho : k < (ownEcho s).length
  · have ht := h0.runAlone h hdelay hecho
    exact ⟨by rw [ht.txseq, seqAt, if_pos hk], ht.cfg⟩
  · have hdriven : StillDriven s k (Machine.runAlone k s) := by
      induction k, not_lt.mp hecho using Nat.le_induction with
      | base =>
        obtain ⟨-, -, hdriven⟩ := h0.runAlone_completes h hdelay hroom
        exact hdriven hk
      | succ k hle ih =>
        obtain ⟨-, e⟩ := hdelay.runAlone_succ k
        rw [e]
        exact (ih (by omega) hle.not_gt).next h hle hk
    exact ⟨hdriven.txseq, hdriven.cfg⟩

end

/-- Settles O57: up to the end of the echo the transmission is `Underway`, and from there to the end of the frame
`StillDriven`. -/
theorem undisturbedTransmission : Obligations.UndisturbedTransmission := by
  unfold Obligations.UndisturbedTransmission
  intro s d len hinv hen hloop hseq hpv hcap hroom te lastActive done
  obtain ⟨hfits, -, hsend⟩ := hinv.pending hpv
  obtain ⟨rfl, rfl, helapsed⟩ := hsend _ _ _ hseq
  have hdelay : NoDelay s := ⟨hloop, List.length_eq_zero_iff.mp (Nat.le_zero.mp (hinv.delayLine.trans_eq hloop))⟩
  have h : AtFrameStart s := ⟨hinv.registers, hinv.joint hen, hpv, hfits⟩
  obtain ⟨hte, -⟩ := hinv.registers
  have h0 : Underway s 0 s :=
    { cfg := rfl
      pending := rfl
      evq := rfl
      elapsed := helapsed.symm
      txseq := by rw [hseq, seqAt, if_pos (Nat.mul_pos (by omega) hte)]
      records := .inl ⟨List.take_zero, hcap⟩ }
  have hdone : done = (ownEcho s).length := (ownEcho_length s).symm
  obtain ⟨hevq, hkind, -⟩ := h0.runAlone_completes h hdelay hroom
  rw [hdone]
  refine ⟨fun k hk => ?_, fun k hk => (h0.runAlone h hdelay hk).evq, hevq, hkind.trans s.pending.len.kind_eq⟩
  obtain ⟨hdriven, hcfg⟩ := h0.runAlone_txseq h hdelay hroom hk
  obtain ⟨-, e⟩ := hdelay.runAlone_succ k
  rw [e, tickStep_drvActive, driveOut, hdriven]
  simp only [halfBitAt, hcfg]
  rfl

end Sys2Proof.Machine
end
